-- ==== Sys2Proof/Word.lean ====
section
/-! DEFINITION. The words of the block's ports: a byte, a 16-bit address, the 17-bit BUS selection word
(spec/30_encoding.md R101; spec/00_scope.md R10). -/

namespace Sys2Proof

/-- `u8`: an unsigned 8-bit value (R10). -/
abbrev Byte := BitVec 8

/-- A 16-bit address of the one address space (spec/20_memory.md R70). -/
abbrev Addr := BitVec 16

/-- The 17-bit word `rw ++ addr` that selects a BUS operation (R101). -/
abbrev BusWord := BitVec 17

end Sys2Proof
end

