-- ==== Sys2Proof/Config.lean ====
section
/-! DEFINITION. The configuration record `Cfg` (spec/00_scope.md R8), the block's fixed constants (R9), and the
free values: opaque constants without a body for what the spec calls `draw` or leaves to the platform. -/

namespace Sys2Proof

/-- `ECHO_MODE` (R8): what 0xE000-0xFDFF reaches. -/
inductive EchoMode where
  | mirror
  | openBus
  deriving DecidableEq, Repr

/-- The backing stores of the block that a bus operation can write (spec/10_state.md R52). -/
inductive Store where
  | vram | xram | wram | oam | hram | io
  deriving DecidableEq, Repr

/-- The configuration record (R8). It is no state of the block (R20): no operation writes it.
`NUM_WRAM_BANKS` and `NUM_VRAM_BANKS` follow from `cgb` and are functions below; `CYCLE_W` has its default,
`unbounded`. `rom` and `bootRom` list the bytes of the two images by index (`bank * 0x4000 + offset`, and the
offset); a byte not listed is a free value (log 5). `cartridgeWindow` says that the cartridge controller claims
0xA000-0xBFFF for something other than banked RAM (R145; log 12). -/
structure Cfg where
  cgb : Bool
  numRomBanks : Nat
  numRamBanks : Nat
  rom : List Host.Cell
  bootRomPresent : Bool
  bootRom : List Host.Cell
  timaDsScale : Fin 2
  echoMode : EchoMode
  delegatedIo : List Addr
  irqDispatchCycles : Nat
  cartridgeWindow : Bool
  deriving DecidableEq, Repr

/-- `NUM_WRAM_BANKS`: 8 if `CGB` else 2 (R8). -/
def Cfg.numWramBanks (c : Cfg) : Nat := if c.cgb then 8 else 2

/-- `NUM_VRAM_BANKS`: 2 if `CGB` else 1 (R8). -/
def Cfg.numVramBanks (c : Cfg) : Nat := if c.cgb then 2 else 1

namespace Config

/-- The addresses `lo`, `lo + 1`, ..., `n` of them. -/
def addrs (lo n : Nat) : List Addr := (List.range' lo n).map (BitVec.ofNat 16)

/-- The default `DELEGATED_IO` set (spec/40_mmu_bank_page_table.md R163). -/
def defaultDelegatedIo : List Addr :=
  addrs 0xFF00 1 ++ addrs 0xFF01 2 ++ addrs 0xFF10 48 ++ addrs 0xFF42 2 ++ addrs 0xFF4A 2 ++ addrs 0xFF46 1 ++
    addrs 0xFF47 3 ++ addrs 0xFF4D 1 ++ addrs 0xFF51 5 ++ addrs 0xFF56 1 ++ addrs 0xFF68 4

/-- The configuration the model resets with: the spec's defaults where R8 states one, and for the OPEN fields
without a default the configuration of spec/95_test_vectors.md section 0 (DESIGN CHOICE, log 2). -/
def defaultCfg : Cfg where
  cgb := true
  numRomBanks := 4
  numRamBanks := 4
  rom := []
  bootRomPresent := true
  bootRom := []
  timaDsScale := 1
  echoMode := .mirror
  delegatedIo := defaultDelegatedIo
  irqDispatchCycles := 20
  cartridgeWindow := false

/-! ### Fixed constants (R9), in cycles at normal speed -/

def mode2Cycles : Nat := 80
def mode3Cycles : Nat := 172
def mode0Cycles : Nat := 204
def lineCycles : Nat := 456
def line153Cycles : Nat := 912
def vblankLy : Byte := 144
def lastLy : Byte := 153
def frameCycles : Nat := 70680
def divShift : Nat := 8
def quirkStepCycles : Nat := 4

/-- The value of an open bus: exactly 0xFF, never a draw (spec/20_memory.md R80). -/
def openBus : Byte := 0xFF

/-! ### Free values (`draw`, R12): no body, nothing can evaluate them -/

/-- The byte that draw number `draw` gave cell `index` of a store (R52, R350: unspecified; log 3, log 4). -/
opaque powerOnByte (draw : Nat) (store : Store) (index : Nat) : Byte

/-- The byte of the cartridge image at an index the configuration does not list (R8 `ROM`, OPEN; log 5). -/
opaque romByte (index : Nat) : Byte

/-- The byte of the boot image at an offset the configuration does not list (R8 `BOOT_ROM`, OPEN; log 5). -/
opaque bootByte (offset : Nat) : Byte

/-- `ext_io_rdata` at the `draw`-th free value taken, for a read of a delegated address (R163; log 6). -/
opaque extIoRdata (draw : Nat) (addr : Addr) : Byte

end Config

end Sys2Proof
end

