-- ==== Sys2Proof/Machine/Memory.lean ====
section
/-! DEFINITION. A store's contents as plain data: a list of (index, byte) cells in one canonical form, indexes
strictly rising. An index that is not listed holds no written byte; what it reads as is `Block.byteOf`
(Machine/Aggregate.lean; log 3). -/

namespace Sys2Proof.Machine

/-- The written bytes of one store, by index. -/
abbrev Memory := List Host.Cell

/-- The byte written at index `k`, if any. -/
def Memory.lookup (m : Memory) (k : Nat) : Option Byte :=
  match m with
  | [] => none
  | (a, v) :: rest => if a = k then some v else Memory.lookup rest k

/-- Write byte `v` at index `k`, keeping the indexes strictly rising. -/
def Memory.write (m : Memory) (k : Nat) (v : Byte) : Memory :=
  match m with
  | [] => [(k, v)]
  | (a, x) :: rest =>
    if k < a then (k, v) :: (a, x) :: rest
    else if k = a then (k, v) :: rest
    else (a, x) :: Memory.write rest k v

/-- The canonical form of a store of `size` bytes: indexes strictly rising and below the size (R52: each store is
"a fixed-size byte buffer"). -/
abbrev Memory.wf (size : Nat) (m : Memory) : Prop :=
  m.Pairwise (fun x y => x.1 < y.1) ∧ ∀ c ∈ m, c.1 < size

end Sys2Proof.Machine
end

