-- ==== Sys2Proof/Machine/Aggregate.lean ====
section
/-! DEFINITION. The spec's one state aggregate (spec/10_state.md R20): every register, every hidden register, the
page table and the memories of the block; its reset values (R58); and `mapBanks()` (spec/40_mmu_bank_page_table.md
R131), which the reset values need. The aggregate stands before the syntax because LOAD_STATE takes one as its
operand (spec/70_reset_and_hazards.md R353). -/

namespace Sys2Proof.Machine

/-- A page-table entry: one of seven kinds (R130). -/
inductive PageEntry where
  | bootOverlay
  | rom (bank : Nat) (quarter : Fin 4)
  | vram (bank : Nat) (half : Fin 2)
  | xram (bank : Nat) (half : Fin 2)
  | wram (bank : Nat)
  | high
  | unmapped
  deriving DecidableEq, Repr

/-- The five interrupt sources, ids 0 to 4 (spec/43_interrupt_controller.md R255). -/
inductive IrqSource where
  | vblank | stat | timer | serial | joypad
  deriving DecidableEq, Repr

/-- The state aggregate (R20). Register names are the spec's; `ifr` is IF. -/
structure Block where
  /-- the free-running cycle counter (R37) -/
  cycle : Nat
  /-- the cycle at which TIMA was last resynchronised (R38) -/
  lastTimerCycle : Nat
  /-- the cycle at which the divider count was last zero (R39) -/
  lastDividerCycle : Nat
  /-- TIMA, 0xFF05 (R24) -/
  tima : Byte
  /-- TMA, 0xFF06 (R25) -/
  tma : Byte
  /-- TAC, 0xFF07 (R26) -/
  tac : Byte
  /-- IF, 0xFF0F (R27) -/
  ifr : Byte
  /-- IE, 0xFFFF (R28) -/
  ie : Byte
  /-- the break flag (R43) -/
  brk : Bool
  /-- LCDC, 0xFF40 (R29) -/
  lcdc : Byte
  /-- STAT, 0xFF41 (R30) -/
  stat : Byte
  /-- LY, 0xFF44 (R31) -/
  ly : Byte
  /-- LYC, 0xFF45 (R32) -/
  lyc : Byte
  /-- cycles left in the current display phase (R40) -/
  scanlineCounter : Nat
  /-- cycles until the next frame-complete pulse while the LCD is off (R41) -/
  offCounter : Nat
  /-- cycles since the last frame-complete pulse (R42) -/
  cyclesSinceVblank : Nat
  /-- the double-speed flag (R44) -/
  ds : Bool
  /-- the boot-ROM overlay is active (R45) -/
  biosMapped : Bool
  /-- the ROM bank shown at 0x4000-0x7FFF (R46) -/
  romBank : Nat
  /-- the external RAM bank shown at 0xA000-0xBFFF (R47) -/
  ramBank : Nat
  /-- external RAM answers (R48) -/
  ramEnabled : Bool
  /-- the work-RAM bank shown at 0xD000-0xDFFF (R49) -/
  wramBank : Nat
  /-- the video-RAM bank shown at 0x8000-0x9FFF (R50) -/
  vramBank : Nat
  /-- VBK, 0xFF4F, the stored byte (R33) -/
  vbk : Byte
  /-- BOOTOFF, 0xFF50, the stored byte (R34) -/
  bootoff : Byte
  /-- SVBK, 0xFF70, the stored byte (R35) -/
  svbk : Byte
  /-- the page table, indexed by `address >> 12` (R51) -/
  pageTable : Vector PageEntry 16
  /-- video RAM, index `bank * 0x2000 + offset` (R52) -/
  vram : Memory
  /-- external RAM, index `bank * 0x2000 + offset` (R52) -/
  xram : Memory
  /-- work RAM, index `bank * 0x1000 + offset` (R52) -/
  wram : Memory
  /-- OAM, 0xA0 bytes (R52) -/
  oam : Memory
  /-- high RAM, 0x7F bytes (R52) -/
  hram : Memory
  /-- the plain-storage bytes of the I/O block, index `address - 0xFF00` (R21, R52) -/
  io : Memory
  /-- the model's own: which power-on draw the bytes not written yet come from (log 4) -/
  memDraw : Nat
  deriving DecidableEq, Repr

/-! ### The page table -/

/-- External RAM answers at 0xA000-0xBFFF (R146). -/
def xramMapped (cfg : Cfg) (ramEnabled : Bool) : Bool := ramEnabled && decide (0 < cfg.numRamBanks)

/-- The page table as the function R131 gives of the bank state. -/
def pageMap (cfg : Cfg) (biosMapped : Bool) (romBank ramBank : Nat) (ramEnabled : Bool) (wramBank vramBank : Nat) :
    Vector PageEntry 16 :=
  #v[if biosMapped then .bootOverlay else .rom 0 0, .rom 0 1, .rom 0 2, .rom 0 3,
     .rom romBank 0, .rom romBank 1, .rom romBank 2, .rom romBank 3,
     .vram vramBank 0, .vram vramBank 1,
     if xramMapped cfg ramEnabled then .xram ramBank 0 else .unmapped,
     if xramMapped cfg ramEnabled then .xram ramBank 1 else .unmapped,
     .wram 0, .wram wramBank,
     if cfg.echoMode = .mirror then .wram 0 else .unmapped,
     .high]

/-- `mapBanks()` (R131): set all sixteen entries from the bank state. -/
def mapBanks (cfg : Cfg) (b : Block) : Block :=
  { b with pageTable := pageMap cfg b.biosMapped b.romBank b.ramBank b.ramEnabled b.wramBank b.vramBank }

/-! ### The stores -/

/-- A store's written bytes (R52). -/
def Block.storeOf (b : Block) : Store → Memory
  | .vram => b.vram
  | .xram => b.xram
  | .wram => b.wram
  | .oam => b.oam
  | .hram => b.hram
  | .io => b.io

/-- Read one byte of a store: the byte written last, or the power-on draw if none was (R52, R350; log 3). -/
def Block.byteOf (b : Block) (st : Store) (i : Nat) : Byte :=
  match (b.storeOf st).lookup i with
  | some v => v
  | none => Config.powerOnByte b.memDraw st i

/-- Write one byte of a store (R52). -/
def Block.writeByte (b : Block) (st : Store) (i : Nat) (v : Byte) : Block :=
  match st with
  | .vram => { b with vram := b.vram.write i v }
  | .xram => { b with xram := b.xram.write i v }
  | .wram => { b with wram := b.wram.write i v }
  | .oam => { b with oam := b.oam.write i v }
  | .hram => { b with hram := b.hram.write i v }
  | .io => { b with io := b.io.write i v }

/-! ### Reset -/

/-- The aggregate RESET establishes (R58, R350): every value of R58's table, then `mapBanks()`; the memories are
unwritten and their bytes come from power-on draw `draw` (log 4). -/
def Block.reset (cfg : Cfg) (draw : Nat) : Block :=
  { cycle := 0, lastTimerCycle := 0, lastDividerCycle := 0
    tima := 0x00, tma := 0x00, tac := 0x00, ifr := 0x00, ie := 0x00, brk := false
    lcdc := 0x00, stat := 0x04, ly := 0x00, lyc := 0x00
    scanlineCounter := Config.mode2Cycles, offCounter := Config.frameCycles, cyclesSinceVblank := 0
    ds := false, biosMapped := cfg.bootRomPresent
    romBank := 1, ramBank := 0, ramEnabled := false, wramBank := 1, vramBank := 0
    vbk := 0x00, bootoff := 0x00, svbk := 0x00
    pageTable := pageMap cfg cfg.bootRomPresent 1 0 false 1 0
    vram := [], xram := [], wram := [], oam := [], hram := [], io := []
    memDraw := draw }

end Sys2Proof.Machine
end

