-- ==== Sys2Proof/Syntax.lean ====
section
/-! DEFINITION. The operations of the block as syntax: one constructor per mnemonic of spec/opcode_table.json, in
the table's order (spec/30_encoding.md R103, R105; WR_OAM and RD_OAM take two rows each and are one operation
each), and the words an agent presents on the two ports (R100, R101, R104). -/

namespace Sys2Proof

/-- One operation of the block (spec/00_scope.md R13). `v` is `wdata`. -/
inductive Instr where
  -- bus writes, rows 1 to 25
  | wrDiv (v : Byte)
  | wrTima (v : Byte)
  | wrTma (v : Byte)
  | wrTac (v : Byte)
  | wrIf (v : Byte)
  | wrLcdc (v : Byte)
  | wrStat (v : Byte)
  | wrLy (v : Byte)
  | wrLyc (v : Byte)
  | wrVbk (v : Byte)
  | wrBootoff (v : Byte)
  | wrSvbk (v : Byte)
  | wrIe (v : Byte)
  | wrHram (addr : Addr) (v : Byte)
  | wrIo (addr : Addr) (v : Byte)
  | wrOam (addr : Addr) (v : Byte)
  | wrUnused (addr : Addr) (v : Byte)
  | wrEcho1 (addr : Addr) (v : Byte)
  | wrEcho0 (addr : Addr) (v : Byte)
  | wrWramx (addr : Addr) (v : Byte)
  | wrWram0 (addr : Addr) (v : Byte)
  | wrXram (addr : Addr) (v : Byte)
  | wrVram (addr : Addr) (v : Byte)
  | wrRom (addr : Addr) (v : Byte)
  -- bus reads, rows 26 to 48
  | rdDiv
  | rdTima
  | rdTma
  | rdTac
  | rdIf
  | rdLcdc
  | rdStat
  | rdLy
  | rdLyc
  | rdIe
  | rdHram (addr : Addr)
  | rdIo (addr : Addr)
  | rdOam (addr : Addr)
  | rdUnused (addr : Addr)
  | rdEcho1 (addr : Addr)
  | rdEcho0 (addr : Addr)
  | rdWramx (addr : Addr)
  | rdWram0 (addr : Addr)
  | rdXram (addr : Addr)
  | rdVram (addr : Addr)
  | rdRomx (addr : Addr)
  | rdRom0 (addr : Addr)
  -- events, rows 49 to 58
  | tick (n : Nat)
  | irqReq (id : BitVec 3)
  | irqAck
  | brkClr
  | speedSwitch
  | mbcRombank (n : Nat)
  | mbcRambank (n : Nat)
  | mbcRamen (b : Bool)
  | reset
  | loadState (s : Machine.Block)
  deriving DecidableEq, Repr

/-- The operand of an EVT word; which kind belongs to which selector is R105's table. -/
inductive EvtOperand where
  | none
  | nat (n : Nat)
  | id (i : BitVec 3)
  | bit (b : Bool)
  | aggregate (s : Machine.Block)
  deriving DecidableEq, Repr

/-- One word presented on a port: a BUS word with its data byte (R101; `wdata` is ignored on a read) or an EVT
word with its operand (R104). -/
inductive PortWord where
  | bus (word : BusWord) (wdata : Byte)
  | evt (sel : BitVec 4) (operand : EvtOperand)
  deriving DecidableEq, Repr

end Sys2Proof
end

