-- ==== Sys2Proof/WellFormed.lean ====
section
/-! DEFINITION. Which terms of `Instr` an encoding exists for: each address operand lies in the range of its row
(spec/30_encoding.md R103, column "addresses"). Operands that the spec calls reserved (IRQ_REQ ids 5 to 7, bank
numbers out of range, SPEED_SWITCH on a classic machine: R113) are encodable and refused by their meaning. -/

namespace Sys2Proof

/-- `lo <= addr <= hi`. -/
def inRange (lo hi : Nat) (a : Addr) : Bool := decide (lo ≤ a.toNat) && decide (a.toNat ≤ hi)

/-- The addresses in 0xFF00-0xFF7F with a read row of their own (rows 26 to 34). -/
def ownReadRow : List Addr := [0xFF04, 0xFF05, 0xFF06, 0xFF07, 0xFF0F, 0xFF40, 0xFF41, 0xFF44, 0xFF45]

/-- The addresses in 0xFF00-0xFF7F with a write row of their own (rows 1 to 12). -/
def ownWriteRow : List Addr := ownReadRow ++ [0xFF4F, 0xFF50, 0xFF70]

/-- The operation has an encoding (R103, R105). -/
def Instr.wellFormed : Instr → Bool
  | .wrDiv _ | .wrTima _ | .wrTma _ | .wrTac _ | .wrIf _ | .wrLcdc _ | .wrStat _ | .wrLy _ | .wrLyc _ => true
  | .wrVbk _ | .wrBootoff _ | .wrSvbk _ | .wrIe _ => true
  | .wrHram a _ => inRange 0xFF80 0xFFFE a
  | .wrIo a _ => inRange 0xFF00 0xFF7F a && !ownWriteRow.contains a
  | .wrOam a _ => inRange 0xFE00 0xFE9F a
  | .wrUnused a _ => inRange 0xFEA0 0xFEFF a
  | .wrEcho1 a _ => inRange 0xF000 0xFDFF a
  | .wrEcho0 a _ => inRange 0xE000 0xEFFF a
  | .wrWramx a _ => inRange 0xD000 0xDFFF a
  | .wrWram0 a _ => inRange 0xC000 0xCFFF a
  | .wrXram a _ => inRange 0xA000 0xBFFF a
  | .wrVram a _ => inRange 0x8000 0x9FFF a
  | .wrRom a _ => inRange 0x0000 0x7FFF a
  | .rdDiv | .rdTima | .rdTma | .rdTac | .rdIf | .rdLcdc | .rdStat | .rdLy | .rdLyc | .rdIe => true
  | .rdHram a => inRange 0xFF80 0xFFFE a
  | .rdIo a => inRange 0xFF00 0xFF7F a && !ownReadRow.contains a
  | .rdOam a => inRange 0xFE00 0xFE9F a
  | .rdUnused a => inRange 0xFEA0 0xFEFF a
  | .rdEcho1 a => inRange 0xF000 0xFDFF a
  | .rdEcho0 a => inRange 0xE000 0xEFFF a
  | .rdWramx a => inRange 0xD000 0xDFFF a
  | .rdWram0 a => inRange 0xC000 0xCFFF a
  | .rdXram a => inRange 0xA000 0xBFFF a
  | .rdVram a => inRange 0x8000 0x9FFF a
  | .rdRomx a => inRange 0x4000 0x7FFF a
  | .rdRom0 a => inRange 0x0000 0x3FFF a
  | .tick _ | .irqReq _ | .irqAck | .brkClr | .speedSwitch | .mbcRombank _ | .mbcRambank _ | .mbcRamen _ => true
  | .reset | .loadState _ => true

end Sys2Proof
end

