-- ==== Sys2Proof/Decode.lean ====
section
/-! DEFINITION. The decoder, total on every port word and refusing by name (spec/30_encoding.md R102, R103, R105,
R113, R119), and after it the encoder, from the same tables. -/

namespace Sys2Proof

/-! ### The decoder -/

/-- Why a port word selects no operation. -/
inductive Reject where
  /-- an EVT selector 0xA to 0xF (R113) -/
  | reservedSelector
  /-- an EVT operand that is not of the kind R105 gives the selector (log 10) -/
  | operandKind
  /-- a BUS word no row matches; there is none (R119) -/
  | noRow
  deriving DecidableEq, Repr

/-- What the decoder reads from a port word. -/
inductive Decoded where
  | instr (i : Instr)
  | reject (r : Reject)
  deriving DecidableEq, Repr

/-- One row of the BUS opcode map (R103): it is selected when `word & mask = value`. -/
structure BusRow where
  mnemonic : String
  value : BusWord
  mask : BusWord
  build : Addr → Byte → Instr

/-- Rows 1 to 13: single-address writes (R103). -/
def busRowsWriteSingle : List BusRow :=
  [⟨"WR_DIV", 0x1FF04, 0x1FFFF, fun _ v => .wrDiv v⟩,
   ⟨"WR_TIMA", 0x1FF05, 0x1FFFF, fun _ v => .wrTima v⟩,
   ⟨"WR_TMA", 0x1FF06, 0x1FFFF, fun _ v => .wrTma v⟩,
   ⟨"WR_TAC", 0x1FF07, 0x1FFFF, fun _ v => .wrTac v⟩,
   ⟨"WR_IF", 0x1FF0F, 0x1FFFF, fun _ v => .wrIf v⟩,
   ⟨"WR_LCDC", 0x1FF40, 0x1FFFF, fun _ v => .wrLcdc v⟩,
   ⟨"WR_STAT", 0x1FF41, 0x1FFFF, fun _ v => .wrStat v⟩,
   ⟨"WR_LY", 0x1FF44, 0x1FFFF, fun _ v => .wrLy v⟩,
   ⟨"WR_LYC", 0x1FF45, 0x1FFFF, fun _ v => .wrLyc v⟩,
   ⟨"WR_VBK", 0x1FF4F, 0x1FFFF, fun _ v => .wrVbk v⟩,
   ⟨"WR_BOOTOFF", 0x1FF50, 0x1FFFF, fun _ v => .wrBootoff v⟩,
   ⟨"WR_SVBK", 0x1FF70, 0x1FFFF, fun _ v => .wrSvbk v⟩,
   ⟨"WR_IE", 0x1FFFF, 0x1FFFF, fun _ v => .wrIe v⟩]

/-- Rows 14 to 25: write ranges (R103). -/
def busRowsWriteRange : List BusRow :=
  [⟨"WR_HRAM", 0x1FF80, 0x1FF80, .wrHram⟩,
   ⟨"WR_IO", 0x1FF00, 0x1FF80, .wrIo⟩,
   ⟨"WR_OAM", 0x1FE00, 0x1FF80, .wrOam⟩,
   ⟨"WR_OAM", 0x1FE80, 0x1FFE0, .wrOam⟩,
   ⟨"WR_UNUSED", 0x1FE00, 0x1FF00, .wrUnused⟩,
   ⟨"WR_ECHO1", 0x1F000, 0x1F000, .wrEcho1⟩,
   ⟨"WR_ECHO0", 0x1E000, 0x1F000, .wrEcho0⟩,
   ⟨"WR_WRAMX", 0x1D000, 0x1F000, .wrWramx⟩,
   ⟨"WR_WRAM0", 0x1C000, 0x1F000, .wrWram0⟩,
   ⟨"WR_XRAM", 0x1A000, 0x1E000, .wrXram⟩,
   ⟨"WR_VRAM", 0x18000, 0x1E000, .wrVram⟩,
   ⟨"WR_ROM", 0x10000, 0x18000, .wrRom⟩]

/-- Rows 26 to 35: single-address reads (R103). -/
def busRowsReadSingle : List BusRow :=
  [⟨"RD_DIV", 0x0FF04, 0x1FFFF, fun _ _ => .rdDiv⟩,
   ⟨"RD_TIMA", 0x0FF05, 0x1FFFF, fun _ _ => .rdTima⟩,
   ⟨"RD_TMA", 0x0FF06, 0x1FFFF, fun _ _ => .rdTma⟩,
   ⟨"RD_TAC", 0x0FF07, 0x1FFFF, fun _ _ => .rdTac⟩,
   ⟨"RD_IF", 0x0FF0F, 0x1FFFF, fun _ _ => .rdIf⟩,
   ⟨"RD_LCDC", 0x0FF40, 0x1FFFF, fun _ _ => .rdLcdc⟩,
   ⟨"RD_STAT", 0x0FF41, 0x1FFFF, fun _ _ => .rdStat⟩,
   ⟨"RD_LY", 0x0FF44, 0x1FFFF, fun _ _ => .rdLy⟩,
   ⟨"RD_LYC", 0x0FF45, 0x1FFFF, fun _ _ => .rdLyc⟩,
   ⟨"RD_IE", 0x0FFFF, 0x1FFFF, fun _ _ => .rdIe⟩]

/-- Rows 36 to 48: read ranges (R103). -/
def busRowsReadRange : List BusRow :=
  [⟨"RD_HRAM", 0x0FF80, 0x1FF80, fun a _ => .rdHram a⟩,
   ⟨"RD_IO", 0x0FF00, 0x1FF80, fun a _ => .rdIo a⟩,
   ⟨"RD_OAM", 0x0FE00, 0x1FF80, fun a _ => .rdOam a⟩,
   ⟨"RD_OAM", 0x0FE80, 0x1FFE0, fun a _ => .rdOam a⟩,
   ⟨"RD_UNUSED", 0x0FE00, 0x1FF00, fun a _ => .rdUnused a⟩,
   ⟨"RD_ECHO1", 0x0F000, 0x1F000, fun a _ => .rdEcho1 a⟩,
   ⟨"RD_ECHO0", 0x0E000, 0x1F000, fun a _ => .rdEcho0 a⟩,
   ⟨"RD_WRAMX", 0x0D000, 0x1F000, fun a _ => .rdWramx a⟩,
   ⟨"RD_WRAM0", 0x0C000, 0x1F000, fun a _ => .rdWram0 a⟩,
   ⟨"RD_XRAM", 0x0A000, 0x1E000, fun a _ => .rdXram a⟩,
   ⟨"RD_VRAM", 0x08000, 0x1E000, fun a _ => .rdVram a⟩,
   ⟨"RD_ROMX", 0x04000, 0x1C000, fun a _ => .rdRomx a⟩,
   ⟨"RD_ROM0", 0x00000, 0x1C000, fun a _ => .rdRom0 a⟩]

/-- The BUS opcode map, rows 1 to 48 in decode order (R103). -/
def busTable : List BusRow := busRowsWriteSingle ++ busRowsWriteRange ++ busRowsReadSingle ++ busRowsReadRange

/-- `addr`, bits 15:0 of the BUS word (R101). -/
def busAddr (word : BusWord) : Addr := word.extractLsb' 0 16

/-- The row is selected by the word (R102). -/
def BusRow.selects (r : BusRow) (word : BusWord) : Bool := word &&& r.mask == r.value

/-- Decode a BUS word: the first row whose `(word & mask) = match` (R102). -/
def decodeBus (word : BusWord) (wdata : Byte) : Decoded :=
  match busTable.find? (·.selects word) with
  | some r => .instr (r.build (busAddr word) wdata)
  | none => .reject .noRow

/-- Decode an EVT word by its selector (R105); selectors 0xA to 0xF are reserved (R113). -/
def decodeEvt (sel : BitVec 4) (o : EvtOperand) : Decoded :=
  match sel.toNat, o with
  | 0, .nat n => .instr (.tick n)
  | 1, .id i => .instr (.irqReq i)
  | 2, .none => .instr .irqAck
  | 3, .none => .instr .brkClr
  | 4, .none => .instr .speedSwitch
  | 5, .nat n => .instr (.mbcRombank n)
  | 6, .nat n => .instr (.mbcRambank n)
  | 7, .bit b => .instr (.mbcRamen b)
  | 8, .none => .instr .reset
  | 9, .aggregate s => .instr (.loadState s)
  | k, _ => if k < 10 then .reject .operandKind else .reject .reservedSelector

/-- The decoder: the format is told by the port the word arrives on (R116). -/
def decode : PortWord → Decoded
  | .bus word wdata => decodeBus word wdata
  | .evt sel o => decodeEvt sel o

/-! ### The encoder -/

/-- The BUS word of a write (R101: `rw = 1`). -/
def busWrite (a : Addr) (v : Byte) : PortWord := .bus (1#1 ++ a) v

/-- The BUS word of a read (R101: `rw = 0`; there is no `wdata`). -/
def busRead (a : Addr) : PortWord := .bus (0#1 ++ a) 0

/-- The word of a well-formed operation (R103, R105). -/
def encode : Instr → PortWord
  | .wrDiv v => busWrite 0xFF04 v
  | .wrTima v => busWrite 0xFF05 v
  | .wrTma v => busWrite 0xFF06 v
  | .wrTac v => busWrite 0xFF07 v
  | .wrIf v => busWrite 0xFF0F v
  | .wrLcdc v => busWrite 0xFF40 v
  | .wrStat v => busWrite 0xFF41 v
  | .wrLy v => busWrite 0xFF44 v
  | .wrLyc v => busWrite 0xFF45 v
  | .wrVbk v => busWrite 0xFF4F v
  | .wrBootoff v => busWrite 0xFF50 v
  | .wrSvbk v => busWrite 0xFF70 v
  | .wrIe v => busWrite 0xFFFF v
  | .wrHram a v => busWrite a v
  | .wrIo a v => busWrite a v
  | .wrOam a v => busWrite a v
  | .wrUnused a v => busWrite a v
  | .wrEcho1 a v => busWrite a v
  | .wrEcho0 a v => busWrite a v
  | .wrWramx a v => busWrite a v
  | .wrWram0 a v => busWrite a v
  | .wrXram a v => busWrite a v
  | .wrVram a v => busWrite a v
  | .wrRom a v => busWrite a v
  | .rdDiv => busRead 0xFF04
  | .rdTima => busRead 0xFF05
  | .rdTma => busRead 0xFF06
  | .rdTac => busRead 0xFF07
  | .rdIf => busRead 0xFF0F
  | .rdLcdc => busRead 0xFF40
  | .rdStat => busRead 0xFF41
  | .rdLy => busRead 0xFF44
  | .rdLyc => busRead 0xFF45
  | .rdIe => busRead 0xFFFF
  | .rdHram a => busRead a
  | .rdIo a => busRead a
  | .rdOam a => busRead a
  | .rdUnused a => busRead a
  | .rdEcho1 a => busRead a
  | .rdEcho0 a => busRead a
  | .rdWramx a => busRead a
  | .rdWram0 a => busRead a
  | .rdXram a => busRead a
  | .rdVram a => busRead a
  | .rdRomx a => busRead a
  | .rdRom0 a => busRead a
  | .tick n => .evt 0x0 (.nat n)
  | .irqReq i => .evt 0x1 (.id i)
  | .irqAck => .evt 0x2 .none
  | .brkClr => .evt 0x3 .none
  | .speedSwitch => .evt 0x4 .none
  | .mbcRombank n => .evt 0x5 (.nat n)
  | .mbcRambank n => .evt 0x6 (.nat n)
  | .mbcRamen b => .evt 0x7 (.bit b)
  | .reset => .evt 0x8 .none
  | .loadState s => .evt 0x9 (.aggregate s)

/-! ### Words numbered as the opcode table numbers them -/

/-- The operand of zeros of an EVT selector: 0, id 0, bit 0; for LOAD_STATE, whose operand has no bit layout in
the spec, the reset aggregate (DESIGN CHOICE, log 11). -/
def zeroOperand (sel : Nat) : EvtOperand :=
  match sel with
  | 0 | 5 | 6 => .nat 0
  | 1 => .id 0
  | 7 => .bit false
  | 9 => .aggregate (Machine.Block.reset Config.defaultCfg 0)
  | _ => .none

/-- The port word of a table row's bits: up to 16 bits it is an EVT word (4 bits in the table), above that a BUS
word (17 bits); data and operand are zero, and a bit above the format's own is no word (log 11). -/
def tablePortWord (nbits w : Nat) : Option PortWord :=
  if nbits ≤ 16 then (if w < 16 then some (.evt (BitVec.ofNat 4 w) (zeroOperand w)) else none)
  else if w < 0x20000 then some (.bus (BitVec.ofNat 17 w) 0) else none

/-- The operation the decoder reads from a word numbered as spec/opcode_table.json numbers it. -/
def decodeTableWord (nbits w : Nat) : Option Instr :=
  match (tablePortWord nbits w).map decode with
  | some (.instr i) => some i
  | _ => none

end Sys2Proof
end

