-- ==== Sys2Proof/Machine/State.lean ====
section
/-! DEFINITION. The machine's state: the spec's aggregate, the configuration, whether this session has
seen a BOOTOFF write, the output ports of the last operation, the input port's pending words and the counter of free
values; why a step can stop; the state after reset. -/

namespace Sys2Proof.Machine

/-- An output strobe (spec/10_state.md R55; spec/00_scope.md R12 `pulse`). -/
inductive Pulse where
  /-- `mbc_write(addr, v)`: a ROM-area write forwarded to the cartridge controller -/
  | mbcWrite (addr : Addr) (v : Byte)
  /-- `ext_io_write(addr, v)`: a delegated I/O write forwarded to its owner -/
  | extIoWrite (addr : Addr) (v : Byte)
  /-- `ret_vblank`: frame complete -/
  | retVblank
  /-- `hook_scanline_start` -/
  | hookScanlineStart
  /-- `hook_scanline_end` -/
  | hookScanlineEnd
  /-- `hdma_hblank` -/
  | hdmaHblank
  deriving DecidableEq, Repr

/-- What an operation returns to the agent that issued it. -/
inductive Reply where
  /-- nothing: a write, or an event without an answer -/
  | none
  /-- `rdata`, the byte a bus read returns (R101) -/
  | rdata (v : Byte)
  /-- IRQ_ACK's answer: `none`, or the source and its vector (R258) -/
  | ack (answer : Option (IrqSource × Addr))
  deriving DecidableEq, Repr

/-- The output ports as the last operation left them; they carry no state of the block (R12; log 8). -/
structure Outputs where
  reply : Reply
  /-- the pulses of the operation, in the order they were raised -/
  pulses : List Pulse
  deriving DecidableEq, Repr

/-- No answer and no pulse. -/
def Outputs.quiet : Outputs := ⟨.none, []⟩

/-- The machine. -/
structure State where
  /-- the configuration record (R8), written by no operation (log 2) -/
  cfg : Cfg
  /-- the block's state aggregate (R20) -/
  blk : Block
  /-- a write to BOOTOFF has happened since RESET: the session INV8 of R54 speaks of (R34, R45). It stands beside the
  aggregate because a snapshot cannot undo what happened in a session (R350, R353; log 13). -/
  bootoffWritten : Bool
  /-- the output ports of the last operation (log 8) -/
  out : Outputs
  /-- the words presented and not yet performed, oldest first (log 1) -/
  port : List PortWord
  /-- how many free values have been taken; the next one is number `draws` (log 4, log 6) -/
  draws : Nat
  deriving DecidableEq, Repr

/-- Faults. The block raises no exception, fault or error of any kind (spec/60_exceptions.md R310), so there is no
constructor: no step can fault, and that is safe and exact. -/
inductive Fault where
  deriving DecidableEq, Repr

/-- Refusals (R311): an operation an external agent must not issue, to which the spec gives no meaning. -/
inductive Refusal where
  /-- The host's form: an instruction without a meaning yet. No arm of `exec` answers it. Safe. -/
  | notModelled (mnemonic : String)
  /-- `ReservedEvent` (R113, R311): raised by IRQ_REQ with id 5 to 7, MBC_ROMBANK and MBC_RAMBANK out of range,
  SPEED_SWITCH when `CGB` is false, and by `step` on an EVT selector 0xA to 0xF. Safe: the spec refuses. -/
  | reservedEvent
  /-- `CartridgeWindow` (R145, R311): raised by RD_XRAM and WR_XRAM when the cartridge controller claims
  0xA000-0xBFFF for something other than banked RAM. Safe: the spec refuses. -/
  | cartridgeWindow
  /-- `BadSnapshot` (R311, R353): raised by LOAD_STATE with an aggregate that violates an invariant of R54.
  Safe: the spec refuses. -/
  | badSnapshot
  /-- Raised by `step` on a port word that is no word of the two formats: an EVT operand of the wrong kind
  (R104, R105; log 10). Safe: no agent can present one. -/
  | malformedWord
  deriving DecidableEq, Repr

/-- The machine right after reset: the aggregate of R58, nothing presented, nothing answered. The configuration is
the one of log 2; the memories come from power-on draw 0, and the next free value is number 1 (log 4). -/
def State.reset : State where
  cfg := Config.defaultCfg
  blk := Block.reset Config.defaultCfg 0
  bootoffWritten := false
  out := Outputs.quiet
  port := []
  draws := 1

end Sys2Proof.Machine
end

