-- ==== Sys2Proof/Machine/Operands.lean ====
section
/-! DEFINITION. Operand fields: everything an operation takes out of its address, its data byte or its operand
(spec/30_encoding.md R106 to R112). All fields are unsigned; nothing is scaled or sign-extended (R106). -/

namespace Sys2Proof.Machine

/-! ### Fields of the address (R106) -/

/-- The page `p = addr[15:12]`. -/
def pageOf (a : Addr) : Fin 16 := ⟨a.toNat / 0x1000, by have := a.isLt; omega⟩

/-- The page offset `off = addr[11:0]`. -/
def pageOff (a : Addr) : Nat := a.toNat % 0x1000

/-- The ROM bank offset `addr[13:0]`. -/
def romBankOff (a : Addr) : Nat := a.toNat % 0x4000

/-- The 8 KiB bank offset `addr[12:0]`. -/
def bank8Off (a : Addr) : Nat := a.toNat % 0x2000

/-- The I/O offset and the OAM index `addr[7:0]`. -/
def byteOff (a : Addr) : Nat := a.toNat % 0x100

/-- The high-RAM index `addr[6:0]`. -/
def hramOff (a : Addr) : Nat := a.toNat % 0x80

/-! ### Fields of `wdata` (R107 to R109) -/

/-- TAC `freq`, bits 1:0 (R107, R26). -/
def tacFreq (v : Byte) : BitVec 2 := v.extractLsb' 0 2

/-- TAC `enable`, bit 2 (R107, R26). -/
def tacEnable (v : Byte) : Bool := v.getLsbD 2

/-- LCDC `lcdOn`, bit 7 (R108, R29). -/
def lcdOnBit (v : Byte) : Bool := v.getLsbD 7

/-- The work-RAM bank an SVBK byte selects: `v[2:0]`, with 0 selecting bank 1 (R109, R158). -/
def svbkBank (v : Byte) : Nat :=
  let bank := (v.extractLsb' 0 3).toNat
  if bank = 0 then 1 else bank

/-- The video-RAM bank a VBK byte selects: `v[0]` (R109, R157). -/
def vbkBank (v : Byte) : Nat := (v.extractLsb' 0 1).toNat

/-! ### The interrupt id (R110) -/

/-- The source an IRQ_REQ id names; ids 5 to 7 are reserved (R110, R113). -/
def IrqSource.ofId (id : BitVec 3) : Option IrqSource :=
  match id.toNat with
  | 0 => some .vblank
  | 1 => some .stat
  | 2 => some .timer
  | 3 => some .serial
  | 4 => some .joypad
  | _ => none

/-- The source's id, which is its bit number in IF and IE (R255). -/
def IrqSource.id : IrqSource → Nat
  | .vblank => 0
  | .stat => 1
  | .timer => 2
  | .serial => 3
  | .joypad => 4

/-- The bit `1 << id` (R110). -/
def IrqSource.mask (src : IrqSource) : Byte := 1#8 <<< src.id

/-- The vector `0x0040 + 8 * id` (R257). -/
def IrqSource.vector (src : IrqSource) : Addr := BitVec.ofNat 16 (0x0040 + 8 * src.id)

/-- The sources in priority order: lowest id first (R257). -/
def IrqSource.all : List IrqSource := [.vblank, .stat, .timer, .serial, .joypad]

/-! ### The shift count of the timer (R171) -/

/-- `TIMA_SHIFT = [10, 4, 6, 8]` (spec/00_scope.md R9). -/
def timaShift (freq : BitVec 2) : Nat :=
  match freq.toNat with
  | 0 => 10
  | 1 => 4
  | 2 => 6
  | _ => 8

end Sys2Proof.Machine
end

