-- ==== Sys2Proof/Machine/Flags.lean ====
section
/-! DEFINITION. The status bits: the fields of STAT (spec/10_state.md R30), the LCD enable, the pending test and
the priority selection over IF and IE (spec/43_interrupt_controller.md R256, R257). -/

namespace Sys2Proof.Machine

/-! ### STAT (R30) and LCDC bit 7 (R29) -/

/-- `STAT[1:0]`, the display mode. -/
def Block.mode (b : Block) : BitVec 2 := b.stat.extractLsb' 0 2

/-- `STAT[2]`, the match flag. -/
def Block.lycMatch (b : Block) : Bool := b.stat.getLsbD 2

/-- `STAT[3]`, the Mode 0 interrupt enable. -/
def Block.intMode0 (b : Block) : Bool := b.stat.getLsbD 3

/-- `STAT[4]`, the Mode 1 (VBlank) interrupt enable. -/
def Block.intMode1 (b : Block) : Bool := b.stat.getLsbD 4

/-- `STAT[5]`, the Mode 2 interrupt enable. -/
def Block.intMode2 (b : Block) : Bool := b.stat.getLsbD 5

/-- `STAT[6]`, the LYC interrupt enable. -/
def Block.intLyc (b : Block) : Bool := b.stat.getLsbD 6

/-- `LCDC[7]` (R29). -/
def Block.lcdOn (b : Block) : Bool := lcdOnBit b.lcdc

/-- `STAT[1:0] <- m`, the other bits as they were. -/
def statWithMode (stat : Byte) (m : BitVec 2) : Byte := (stat &&& 0xFC) ||| m.zeroExtend 8

/-- `STAT[2] <- m`, the other bits as they were. -/
def statWithMatch (stat : Byte) (m : Bool) : Byte := (stat &&& 0xFB) ||| (if m then 0x04 else 0x00)

/-- `(v & 0xF8) | (STAT & 0x07)`: a bus write keeps the mode and the match flag (R204). -/
def statWritten (stat v : Byte) : Byte := (v &&& 0xF8) ||| (stat &&& 0x07)

/-! ### IF and IE -/

/-- `(IF & IE) != 0` over all 8 bits (R256). -/
def pendingOf (ifr ie : Byte) : Bool := ifr &&& ie != 0

/-- `irq_pending` (R256). -/
def Block.irqPending (b : Block) : Bool := pendingOf b.ifr b.ie

/-- `irq_select`: the lowest id in 0..4 whose bit is set in IF and in IE, or none (R257). -/
def Block.irqSelect (b : Block) : Option IrqSource :=
  IrqSource.all.find? fun src => b.ifr.getLsbD src.id && b.ie.getLsbD src.id

/-- `irq_vector` (R257). -/
def Block.irqVector (b : Block) : Option Addr := b.irqSelect.map IrqSource.vector

/-- The test that follows every write of IF or IE and every request: `if (IF & IE) != 0: brk <- 1`
(R251, R253, R254). -/
def Block.testBreak (b : Block) : Block := { b with brk := b.brk || b.irqPending }

end Sys2Proof.Machine
end

