-- ==== Sys2Proof/Machine/Ops.lean ====
section
/-! DEFINITION. The shared operations: completing an operation with its answer, reading and writing a backing byte
through the page table, the I/O block's stored bytes, requesting and acknowledging an interrupt. The block raises no
exception and takes none (spec/60_exceptions.md R310); its part of an interrupt is the request and the acknowledge
below, and the entry and the return are the CPU's contract, in Machine/Contract.lean (R318, R322). -/

namespace Sys2Proof.Machine

/-! ### Completing an operation -/

/-- The operation ends with the aggregate `b`, the answer `r` and the pulses `ps`; nothing else changes. -/
def State.complete (s : State) (b : Block) (r : Reply) (ps : List Pulse) : State :=
  { s with blk := b, out := ⟨r, ps⟩ }

/-- The next state with aggregate `b`, answer `r` and pulses `ps`. -/
def done (s : State) (b : Block) (r : Reply := .none) (ps : List Pulse := []) :
    Host.Outcome State Fault Refusal :=
  .next (s.complete b r ps)

/-- A bus read that returns `v` and changes nothing. -/
def answerByte (s : State) (v : Byte) : Host.Outcome State Fault Refusal := done s s.blk (.rdata v)

/-! ### The images -/

/-- `ROM[bank][off]` (spec/00_scope.md R8; spec/40_mmu_bank_page_table.md R130). -/
def romAt (cfg : Cfg) (bank off : Nat) : Byte :=
  match Memory.lookup cfg.rom (bank * 0x4000 + off) with
  | some v => v
  | none => Config.romByte (bank * 0x4000 + off)

/-- `BOOT_ROM[off]` (R8, R130). -/
def bootAt (cfg : Cfg) (off : Nat) : Byte :=
  match Memory.lookup cfg.bootRom off with
  | some v => v
  | none => Config.bootByte off

/-- `boot_hit(off)`: `off < 0x100` or `0x200 <= off < 0x900` (R135). -/
def bootHit (off : Nat) : Bool := decide (off < 0x100) || (decide (0x200 ≤ off) && decide (off < 0x900))

/-! ### The page table (R130, R133) -/

/-- The writable backing byte an entry denotes at a page offset, if it denotes one (R130). -/
def PageEntry.cell (e : PageEntry) (off : Nat) : Option (Store × Nat) :=
  match e with
  | .vram bank h => some (.vram, bank * 0x2000 + h.val * 0x1000 + off)
  | .xram bank h => some (.xram, bank * 0x2000 + h.val * 0x1000 + off)
  | .wram bank => some (.wram, bank * 0x1000 + off)
  | .bootOverlay | .rom _ _ | .high | .unmapped => none

/-- `page_read(e, off)` (R133). `high` is decoded by address elsewhere and never read through the table (R134; an
entry `high` outside page 0xF occurs in no state with INV6, log 15). -/
def pageRead (cfg : Cfg) (b : Block) (e : PageEntry) (off : Nat) : Byte :=
  match e with
  | .bootOverlay => if bootHit off then bootAt cfg off else romAt cfg 0 off
  | .rom bank q => romAt cfg bank (q.val * 0x1000 + off)
  | .high | .unmapped => Config.openBus
  | .vram _ _ | .xram _ _ | .wram _ =>
    match e.cell off with
    | some (st, i) => b.byteOf st i
    | none => Config.openBus

/-- `page_write(e, off, v)`: store into the denoted byte if the kind is writable, else nothing (R133). -/
def pageWrite (b : Block) (e : PageEntry) (off : Nat) (v : Byte) : Block :=
  match e.cell off with
  | some (st, i) => b.writeByte st i v
  | none => b

/-- The entry of an address's page. -/
def Block.entryOf (b : Block) (a : Addr) : PageEntry := b.pageTable[pageOf a]

/-- A read through the table: `page_read(pageTable[addr >> 12], addr & 0xFFF)` (R136). -/
def tableRead (cfg : Cfg) (b : Block) (a : Addr) : Byte := pageRead cfg b (b.entryOf a) (pageOff a)

/-- A write through the table: `page_write(pageTable[addr >> 12], addr & 0xFFF, v)` (R137). -/
def tableWrite (b : Block) (a : Addr) (v : Byte) : Block := pageWrite b (b.entryOf a) (pageOff a) v

/-! ### Page 0xF, decoded by address (R134) -/

/-- The backing byte of an echo address in 0xF000-0xFDFF, or none when the echo is open bus (R134, R153). -/
def echo1Cell (cfg : Cfg) (b : Block) (a : Addr) : Option (Store × Nat) :=
  if cfg.echoMode = .mirror then some (.wram, b.wramBank * 0x1000 + pageOff a) else none

/-- Read a cell, or open bus. -/
def cellRead (b : Block) (c : Option (Store × Nat)) : Byte :=
  match c with
  | some (st, i) => b.byteOf st i
  | none => Config.openBus

/-- Write a cell, or drop the write. -/
def cellWrite (b : Block) (c : Option (Store × Nat)) (v : Byte) : Block :=
  match c with
  | some (st, i) => b.writeByte st i v
  | none => b

/-- The stored byte of an I/O address that is not delegated (R168): VBK, BOOTOFF and SVBK read as written last,
every other one is plain storage. -/
def ioRead (b : Block) (a : Addr) : Byte :=
  if a = 0xFF4F then b.vbk
  else if a = 0xFF50 then b.bootoff
  else if a = 0xFF70 then b.svbk
  else b.byteOf .io (byteOff a)

/-- The address is in `DELEGATED_IO` (R163). -/
def delegated (cfg : Cfg) (a : Addr) : Bool := cfg.delegatedIo.contains a

/-! ### Interrupt request and acknowledge -/

/-- `requestInterrupt(id)`: `IF <- IF | (1 << id)`, then the break test (R254). -/
def requestInterrupt (src : IrqSource) (b : Block) : Block := { b with ifr := b.ifr ||| src.mask }.testBreak

/-- Request if an enable bit is set. -/
def requestIf (enabled : Bool) (src : IrqSource) (b : Block) : Block :=
  if enabled then requestInterrupt src b else b

/-- IRQ_ACK's effect on IF: clear the selected bit, if any (R258). -/
def acknowledge (b : Block) : Block :=
  match b.irqSelect with
  | some src => { b with ifr := b.ifr &&& ~~~src.mask }
  | none => b

/-! ### The invariants of R54 -/

/-- INV1: the latches do not lie ahead of the cycle counter. -/
abbrev Block.inv1 (b : Block) : Prop := b.lastTimerCycle ≤ b.cycle ∧ b.lastDividerCycle ≤ b.cycle

/-- INV3: `STAT[2] = 1` iff `LY = LYC`. -/
abbrev Block.inv3 (b : Block) : Prop := b.lycMatch = decide (b.ly = b.lyc)

/-- INV4: with the LCD off, LY and the mode are 0. -/
abbrev Block.inv4 (b : Block) : Prop := b.lcdOn = false → b.ly = 0 ∧ b.mode = 0

/-- INV5: with the LCD on, the countdown runs and LY fits the mode. -/
abbrev Block.inv5 (b : Block) : Prop :=
  b.lcdOn = true →
    1 ≤ b.scanlineCounter ∧
    (b.mode = 2 → b.ly.toNat ≤ 143 ∧ b.scanlineCounter ≤ Config.mode2Cycles <<< 1) ∧
    (b.mode = 3 → b.ly.toNat ≤ 143) ∧
    (b.mode = 0 → b.ly.toNat ≤ 143) ∧
    (b.mode = 1 → 144 ≤ b.ly.toNat ∧ b.ly.toNat ≤ 153)

/-- INV6: the page table is `mapBanks()` of the bank state. -/
abbrev Block.inv6 (cfg : Cfg) (b : Block) : Prop :=
  b.pageTable = pageMap cfg b.biosMapped b.romBank b.ramBank b.ramEnabled b.wramBank b.vramBank

/-- INV7, with the range R47 gives `ramBank` (log 14): the bank indexes exist. -/
abbrev Block.inv7 (cfg : Cfg) (b : Block) : Prop :=
  1 ≤ b.wramBank ∧ b.wramBank < cfg.numWramBanks ∧ b.vramBank < cfg.numVramBanks ∧ b.romBank < cfg.numRomBanks ∧
    b.ramBank < max cfg.numRamBanks 1

/-- INV8, where `written` says whether a write to BOOTOFF has happened since RESET: the overlay is active only if
there is a boot ROM and there was no such write. -/
abbrev Block.inv8 (cfg : Cfg) (written : Bool) (b : Block) : Prop :=
  b.biosMapped = true → cfg.bootRomPresent = true ∧ written = false

/-- The aggregate by itself shows a write to BOOTOFF since the RESET before it: the byte is not its reset value, or
the boot ROM is present and unmapped (R34, R45: nothing but a BOOTOFF write does either; log 13). -/
def Block.showsBootoff (cfg : Cfg) (b : Block) : Bool :=
  decide (b.bootoff ≠ 0) || (cfg.bootRomPresent && !b.biosMapped)

/-- INV9: the LCD-off counter is in `1 .. FRAME_CYCLES << 1`. -/
abbrev Block.inv9 (b : Block) : Prop := 1 ≤ b.offCounter ∧ b.offCounter ≤ Config.frameCycles <<< 1

/-- The memories have their canonical form and fit their stores (R52; log 14). -/
abbrev Block.memWf (cfg : Cfg) (b : Block) : Prop :=
  Memory.wf (cfg.numVramBanks * 0x2000) b.vram ∧ Memory.wf (cfg.numRamBanks * 0x2000) b.xram ∧
    Memory.wf (cfg.numWramBanks * 0x1000) b.wram ∧ Memory.wf 0xA0 b.oam ∧ Memory.wf 0x7F b.hram ∧
    Memory.wf 0x80 b.io

/-- The aggregate meets every invariant of R54, in a session that has (`written`) or has not seen a write to BOOTOFF,
and its memories are well formed. INV2 speaks of the moment after a `timer_sync()` and no aggregate can violate it
(log 14). What other rules say of reachable states and R54 does not repeat, the range of `scanlineCounter` beyond INV5
(R40) and `ds` = 0 on a classic machine (R44) among it, is not checked: the model's choice, log 18. -/
def Block.legal (cfg : Cfg) (written : Bool) (b : Block) : Bool :=
  decide b.inv1 && decide b.inv3 && decide b.inv4 && decide b.inv5 && decide (b.inv6 cfg) && decide (b.inv7 cfg) &&
    decide (b.inv8 cfg written) && decide b.inv9 && decide (b.memWf cfg)

end Sys2Proof.Machine
end

