-- ==== Sys2Proof/Machine/Banks.lean ====
section
/-! DEFINITION. BPT: the meanings of the memory rows, of VBK, SVBK and BOOTOFF, of the generic I/O rows and of the
cartridge controller's events (spec/40_mmu_bank_page_table.md). Pages 0x0 to 0xE go through the page table (R136,
R137); page 0xF is decoded by address (R134). -/

namespace Sys2Proof.Machine

/-! ### ROM and video RAM -/

/-- RD_ROM0 (R138). -/
def execRdRom0 (addr : Addr) (s : State) : Host.Outcome State Fault Refusal :=
  answerByte s (tableRead s.cfg s.blk addr)

/-- RD_ROMX (R139). -/
def execRdRomx (addr : Addr) (s : State) : Host.Outcome State Fault Refusal :=
  answerByte s (tableRead s.cfg s.blk addr)

/-- WR_ROM (R141): forwarded to the cartridge controller; no state of the block changes. -/
def execWrRom (addr : Addr) (v : Byte) (s : State) : Host.Outcome State Fault Refusal :=
  done s s.blk .none [.mbcWrite addr v]

/-- RD_VRAM (R140). -/
def execRdVram (addr : Addr) (s : State) : Host.Outcome State Fault Refusal :=
  answerByte s (tableRead s.cfg s.blk addr)

/-- WR_VRAM (R142). -/
def execWrVram (addr : Addr) (v : Byte) (s : State) : Host.Outcome State Fault Refusal :=
  done s (tableWrite s.blk addr v)

/-! ### External RAM: unmapped pages read open bus and drop writes (R146); a window the cartridge controller
claims has no meaning here (R145) -/

/-- RD_XRAM (R143). -/
def execRdXram (addr : Addr) (s : State) : Host.Outcome State Fault Refusal :=
  if s.cfg.cartridgeWindow then .refused .cartridgeWindow else answerByte s (tableRead s.cfg s.blk addr)

/-- WR_XRAM (R144). -/
def execWrXram (addr : Addr) (v : Byte) (s : State) : Host.Outcome State Fault Refusal :=
  if s.cfg.cartridgeWindow then .refused .cartridgeWindow else done s (tableWrite s.blk addr v)

/-! ### Work RAM and its echo -/

/-- RD_WRAM0 (R147). -/
def execRdWram0 (addr : Addr) (s : State) : Host.Outcome State Fault Refusal :=
  answerByte s (tableRead s.cfg s.blk addr)

/-- WR_WRAM0 (R148). -/
def execWrWram0 (addr : Addr) (v : Byte) (s : State) : Host.Outcome State Fault Refusal :=
  done s (tableWrite s.blk addr v)

/-- RD_WRAMX (R149). -/
def execRdWramx (addr : Addr) (s : State) : Host.Outcome State Fault Refusal :=
  answerByte s (tableRead s.cfg s.blk addr)

/-- WR_WRAMX (R150). -/
def execWrWramx (addr : Addr) (v : Byte) (s : State) : Host.Outcome State Fault Refusal :=
  done s (tableWrite s.blk addr v)

/-- RD_ECHO0 (R151). -/
def execRdEcho0 (addr : Addr) (s : State) : Host.Outcome State Fault Refusal :=
  answerByte s (tableRead s.cfg s.blk addr)

/-- WR_ECHO0 (R152). -/
def execWrEcho0 (addr : Addr) (v : Byte) (s : State) : Host.Outcome State Fault Refusal :=
  done s (tableWrite s.blk addr v)

/-- RD_ECHO1 (R153). -/
def execRdEcho1 (addr : Addr) (s : State) : Host.Outcome State Fault Refusal :=
  answerByte s (cellRead s.blk (echo1Cell s.cfg s.blk addr))

/-- WR_ECHO1 (R154). -/
def execWrEcho1 (addr : Addr) (v : Byte) (s : State) : Host.Outcome State Fault Refusal :=
  done s (cellWrite s.blk (echo1Cell s.cfg s.blk addr) v)

/-! ### OAM, the unused hole, high RAM -/

/-- RD_OAM (R155). -/
def execRdOam (addr : Addr) (s : State) : Host.Outcome State Fault Refusal :=
  answerByte s (s.blk.byteOf .oam (byteOff addr))

/-- WR_OAM (R156). -/
def execWrOam (addr : Addr) (v : Byte) (s : State) : Host.Outcome State Fault Refusal :=
  done s (s.blk.writeByte .oam (byteOff addr) v)

/-- RD_UNUSED (R164): open bus, whatever was written. -/
def execRdUnused (_addr : Addr) (s : State) : Host.Outcome State Fault Refusal := answerByte s Config.openBus

/-- WR_UNUSED (R165): dropped. -/
def execWrUnused (_addr : Addr) (_v : Byte) (s : State) : Host.Outcome State Fault Refusal := done s s.blk

/-- RD_HRAM (R166). -/
def execRdHram (addr : Addr) (s : State) : Host.Outcome State Fault Refusal :=
  answerByte s (s.blk.byteOf .hram (hramOff addr))

/-- WR_HRAM (R167). -/
def execWrHram (addr : Addr) (v : Byte) (s : State) : Host.Outcome State Fault Refusal :=
  done s (s.blk.writeByte .hram (hramOff addr) v)

/-! ### Generic I/O (R163, R168, R169) -/

/-- RD_IO (R168): a delegated address answers `ext_io_rdata`, a free value per read (log 6); any other address its
stored byte. -/
def execRdIo (addr : Addr) (s : State) : Host.Outcome State Fault Refusal :=
  if delegated s.cfg addr then
    .next { s.complete s.blk (.rdata (Config.extIoRdata s.draws addr)) [] with draws := s.draws + 1 }
  else answerByte s (ioRead s.blk addr)

/-- WR_IO (R169): a delegated write pulses `ext_io_write` and changes no state; any other address is plain
storage. -/
def execWrIo (addr : Addr) (v : Byte) (s : State) : Host.Outcome State Fault Refusal :=
  if delegated s.cfg addr then done s s.blk .none [.extIoWrite addr v]
  else done s (s.blk.writeByte .io (byteOff addr) v)

/-! ### Bank registers: each stores its byte and refreshes the page table in the same operation (R132) -/

/-- WR_VBK (R157). -/
def execWrVbk (v : Byte) (s : State) : Host.Outcome State Fault Refusal :=
  let b := { s.blk with vbk := v }
  done s (mapBanks s.cfg (if s.cfg.cgb then { b with vramBank := vbkBank v } else b))

/-- WR_SVBK (R158). -/
def execWrSvbk (v : Byte) (s : State) : Host.Outcome State Fault Refusal :=
  let b := { s.blk with svbk := v }
  done s (mapBanks s.cfg (if s.cfg.cgb then { b with wramBank := svbkBank v } else b))

/-- WR_BOOTOFF (R159): any value unmaps the boot ROM, for the rest of the session (R34, R45); `romBank` is not
changed. -/
def execWrBootoff (v : Byte) (s : State) : Host.Outcome State Fault Refusal :=
  .next { s.complete (mapBanks s.cfg { s.blk with bootoff := v, biosMapped := false }) .none [] with
          bootoffWritten := true }

/-! ### Events of the cartridge controller -/

/-- MBC_ROMBANK (R160). -/
def execMbcRombank (n : Nat) (s : State) : Host.Outcome State Fault Refusal :=
  if n < s.cfg.numRomBanks then done s (mapBanks s.cfg { s.blk with romBank := n })
  else .refused .reservedEvent

/-- MBC_RAMBANK (R161). -/
def execMbcRambank (n : Nat) (s : State) : Host.Outcome State Fault Refusal :=
  if n < max s.cfg.numRamBanks 1 then done s (mapBanks s.cfg { s.blk with ramBank := n })
  else .refused .reservedEvent

/-- MBC_RAMEN (R162). -/
def execMbcRamen (b : Bool) (s : State) : Host.Outcome State Fault Refusal :=
  done s (mapBanks s.cfg { s.blk with ramEnabled := b })

end Sys2Proof.Machine
end

