-- ==== Sys2Proof/Machine/Lcd.lean ====
section
/-! DEFINITION. LCDT: the match flag, the mode transitions, the single-cycle LCD step, and the meanings of
RD_LCDC, WR_LCDC, RD_STAT, WR_STAT, RD_LY, WR_LY, RD_LYC, WR_LYC (spec/42_lcd_timing.md). -/

namespace Sys2Proof.Machine

/-- `n << ds`: an LCDT length under the speed of the moment (R221). -/
def Block.scaled (b : Block) (n : Nat) : Nat := n <<< b.ds.toNat

/-- `lyc_check()` (R220). -/
def lycCheck (b : Block) : Block :=
  let m := decide (b.ly = b.lyc)
  let b := requestIf (m && !b.lycMatch && b.intLyc) .stat b
  { b with stat := statWithMatch b.stat m }

/-- `STAT[1:0] <- m`. -/
def Block.withMode (b : Block) (m : BitVec 2) : Block := { b with stat := statWithMode b.stat m }

/-- `enter_mode2()` (R213). -/
def enterMode2 (b : Block) : Block :=
  let b := requestIf b.intMode2 .stat (b.withMode 2)
  { b with scanlineCounter := b.scaled Config.mode2Cycles }

/-- Mode 2 to Mode 3 (R214). -/
def mode2To3 (b : Block) : Block × List Pulse :=
  ({ b.withMode 3 with scanlineCounter := b.scaled Config.mode3Cycles }, [.hookScanlineStart])

/-- Mode 3 to Mode 0 (R215). -/
def mode3To0 (b : Block) : Block × List Pulse :=
  let b := requestIf b.intMode0 .stat (b.withMode 0)
  ({ b with scanlineCounter := b.scaled Config.mode0Cycles }, [.hookScanlineEnd, .hdmaHblank])

/-- `LY <- v; lyc_check()`. -/
def Block.newLine (b : Block) (v : Byte) : Block := lycCheck { b with ly := v }

/-- End of Mode 0 (R216): the next line, or VBlank at LY = 144. -/
def endOfMode0 (b : Block) : Block × List Pulse :=
  let b := b.newLine (b.ly + 1)
  if b.ly = Config.vblankLy then
    let b := requestInterrupt .vblank (b.withMode 1)
    let b := requestIf b.intMode1 .stat b
    ({ b with scanlineCounter := b.scaled Config.lineCycles, cyclesSinceVblank := 0 }, [.retVblank])
  else (enterMode2 b, [])

/-- End of a VBlank line (R217 for LY up to 151, R218 for LY = 152, R219 for LY = 153). A line number above 153
occurs in no state with INV5; it ends like line 153 (log 15). -/
def endOfMode1 (b : Block) : Block × List Pulse :=
  if b.ly.toNat ≤ 151 then
    let b := b.newLine (b.ly + 1)
    ({ b with scanlineCounter := b.scaled Config.lineCycles }, [])
  else if b.ly.toNat = 152 then
    let b := b.newLine Config.lastLy
    ({ b with scanlineCounter := b.scaled Config.line153Cycles }, [])
  else (enterMode2 (b.newLine 0), [])

/-- `transition()` selects by `STAT[1:0]` (R212). -/
def transition (b : Block) : Block × List Pulse :=
  match b.mode.toNat with
  | 2 => mode2To3 b
  | 3 => mode3To0 b
  | 0 => endOfMode0 b
  | _ => endOfMode1 b

/-- `off_step()` (R211). -/
def offStep (b : Block) : Block × List Pulse :=
  if b.offCounter - 1 = 0 then
    ({ b with offCounter := b.scaled Config.frameCycles, cyclesSinceVblank := 0 }, [.retVblank])
  else ({ b with offCounter := b.offCounter - 1 }, [])

/-- `lcd_step()` (R210). -/
def lcdStep (b : Block) : Block × List Pulse :=
  if b.lcdOn then
    if b.scanlineCounter - 1 = 0 then transition { b with scanlineCounter := 0 }
    else ({ b with scanlineCounter := b.scanlineCounter - 1 }, [])
  else offStep b

/-- `lcdCounter` (spec/44_clock_scheduler.md R286). -/
def Block.lcdCounter (b : Block) : Nat := if b.lcdOn then b.scanlineCounter else b.offCounter

/-! ### Meanings -/

/-- RD_LCDC (R201). -/
def execRdLcdc (s : State) : Host.Outcome State Fault Refusal := answerByte s s.blk.lcdc

/-- The LCD is turned off (R202): LY and the mode to 0, the match flag re-checked, the LCD-off period restarted. -/
def turnOff (b : Block) : Block :=
  let b := lycCheck ({ b with ly := 0 }.withMode 0)
  { b with offCounter := b.scaled Config.frameCycles }

/-- WR_LCDC (R202). -/
def execWrLcdc (v : Byte) (s : State) : Host.Outcome State Fault Refusal :=
  let b := { s.blk with lcdc := v }
  if s.blk.lcdOn && !lcdOnBit v then done s (turnOff b)
  else if !s.blk.lcdOn && lcdOnBit v then done s (enterMode2 b)
  else done s b

/-- RD_STAT (R203). -/
def execRdStat (s : State) : Host.Outcome State Fault Refusal := answerByte s s.blk.stat

/-- WR_STAT (R204): the mode and the match flag are kept; nothing is requested. -/
def execWrStat (v : Byte) (s : State) : Host.Outcome State Fault Refusal :=
  done s { s.blk with stat := statWritten s.blk.stat v }

/-- RD_LY (R205). -/
def execRdLy (s : State) : Host.Outcome State Fault Refusal := answerByte s s.blk.ly

/-- WR_LY (R206): the write is dropped. -/
def execWrLy (_v : Byte) (s : State) : Host.Outcome State Fault Refusal := done s s.blk

/-- RD_LYC (R208). -/
def execRdLyc (s : State) : Host.Outcome State Fault Refusal := answerByte s s.blk.lyc

/-- WR_LYC (R207): store, then `lyc_check()`. -/
def execWrLyc (v : Byte) (s : State) : Host.Outcome State Fault Refusal :=
  done s (lycCheck { s.blk with lyc := v })

end Sys2Proof.Machine
end

