-- ==== Sys2Proof/Machine/Timer.lean ====
section
/-! DEFINITION. TMR: `timer_sync()`, the published countdown, and the meanings of RD_DIV, WR_DIV, RD_TIMA,
WR_TIMA, RD_TMA, WR_TMA, RD_TAC, WR_TAC (spec/41_timer.md). -/

namespace Sys2Proof.Machine

/-! ### The divider -/

/-- `div16 = (cycle - lastDividerCycle) mod 65536` (R174). -/
def Block.div16 (b : Block) : Nat := (b.cycle - b.lastDividerCycle) % 65536

/-- DIV as read: `((cycle - lastDividerCycle) >> 8) & 0xFF` (R175, R23). -/
def Block.divByte (b : Block) : Byte := BitVec.ofNat 8 ((b.cycle - b.lastDividerCycle) >>> Config.divShift)

/-! ### TIMA -/

/-- The shift count `sh` (R171). -/
def Block.timaSh (cfg : Cfg) (b : Block) : Nat := timaShift (tacFreq b.tac) + cfg.timaDsScale.val * b.ds.toNat

/-- The overflow loop of R172: while `c >= 0x100`, request interrupt 2 and lower `c` by `0x100 - TMA`; then
`TIMA <- c`. Each pass lowers `c`, so `fuel = c` is enough. -/
def reloadLoop (fuel c : Nat) (b : Block) : Block :=
  match fuel with
  | 0 => { b with tima := BitVec.ofNat 8 c }
  | fuel + 1 =>
    if 0x100 ≤ c then reloadLoop fuel (b.tma.toNat + (c - 0x100)) (requestInterrupt .timer b)
    else { b with tima := BitVec.ofNat 8 c }

/-- `timer_sync()` (R172). -/
def timerSync (cfg : Cfg) (b : Block) : Block :=
  if tacEnable b.tac then
    let sh := b.timaSh cfg
    let e := b.cycle - b.lastTimerCycle
    let k := e >>> sh
    let c := b.tima.toNat + k
    reloadLoop c c { b with lastTimerCycle := b.lastTimerCycle + (k <<< sh) }
  else { b with lastTimerCycle := b.cycle }

/-- `timerCounter` (R184): cycles until the next TIMA overflow, or none while the timer is stopped. -/
def Block.timerCounter (cfg : Cfg) (b : Block) : Option Nat :=
  if tacEnable b.tac then some (((0x100 - b.tima.toNat) <<< b.timaSh cfg) - (b.cycle - b.lastTimerCycle))
  else none

/-! ### Meanings -/

/-- RD_DIV (R175). -/
def execRdDiv (s : State) : Host.Outcome State Fault Refusal := answerByte s s.blk.divByte

/-- WR_DIV (R176): the written value is ignored. -/
def execWrDiv (_v : Byte) (s : State) : Host.Outcome State Fault Refusal :=
  done s { s.blk with lastDividerCycle := s.blk.cycle }

/-- RD_TIMA (R177): synchronise, then answer TIMA. -/
def execRdTima (s : State) : Host.Outcome State Fault Refusal :=
  let b := timerSync s.cfg s.blk
  done s b (.rdata b.tima)

/-- WR_TIMA (R178): synchronise, then store; the phase is kept. -/
def execWrTima (v : Byte) (s : State) : Host.Outcome State Fault Refusal :=
  done s { timerSync s.cfg s.blk with tima := v }

/-- RD_TMA (R179). -/
def execRdTma (s : State) : Host.Outcome State Fault Refusal := answerByte s s.blk.tma

/-- WR_TMA (R180): overflows due before the write reload the old TMA. -/
def execWrTma (v : Byte) (s : State) : Host.Outcome State Fault Refusal :=
  done s { timerSync s.cfg s.blk with tma := v }

/-- RD_TAC (R181): all 8 bits as stored. -/
def execRdTac (s : State) : Host.Outcome State Fault Refusal := answerByte s s.blk.tac

/-- WR_TAC (R182): synchronise under the old TAC, store, re-latch. -/
def execWrTac (v : Byte) (s : State) : Host.Outcome State Fault Refusal :=
  done s { timerSync s.cfg s.blk with tac := v, lastTimerCycle := s.blk.cycle }

end Sys2Proof.Machine
end

