-- ==== Sys2Proof/Machine/Clock.lean ====
section
/-! DEFINITION. The cycle input, the speed switch and the event-scheduler outputs: the single-cycle step, the
meanings of TICK and SPEED_SWITCH, `cyclesToEvent` and `cycleBudget` (spec/44_clock_scheduler.md). -/

namespace Sys2Proof.Machine

/-- `cycle <- cycle + 1; cyclesSinceVblank <- cyclesSinceVblank + 1`, the first two lines of R281. -/
def Block.countCycle (b : Block) : Block :=
  { b with cycle := b.cycle + 1, cyclesSinceVblank := b.cyclesSinceVblank + 1 }

/-- The single-cycle step (R281): count, synchronise the timer, step the LCD. -/
def cycleStep (cfg : Cfg) (b : Block) : Block × List Pulse := lcdStep (timerSync cfg b.countCycle)

/-- `n` single-cycle steps (R280), with their pulses in order. -/
def cycles (cfg : Cfg) (n : Nat) (b : Block) : Block × List Pulse :=
  match n with
  | 0 => (b, [])
  | n + 1 =>
    let one := cycleStep cfg b
    let rest := cycles cfg n one.1
    (rest.1, one.2 ++ rest.2)

/-! ### Meanings -/

/-- TICK (R280). -/
def execTick (n : Nat) (s : State) : Host.Outcome State Fault Refusal :=
  let r := cycles s.cfg n s.blk
  done s r.1 .none r.2

/-- SPEED_SWITCH (R284); reserved on a classic machine (R113). -/
def execSpeedSwitch (s : State) : Host.Outcome State Fault Refusal :=
  if s.cfg.cgb then
    done s { timerSync s.cfg s.blk with ds := !s.blk.ds, lastTimerCycle := s.blk.cycle }
  else .refused .reservedEvent

/-! ### The source's chunked update (R283) -/

/-- The source's update over a whole chunk of `n` cycles at once: one timer `update()` over the elapsed cycles, then
the running LCD counter lowered by `n`, with at most one transition (R283): `n` less 1 here, and the last 1 by
`lcdStep`. TICK is not defined by it. -/
def chunk (cfg : Cfg) (n : Nat) (b : Block) : Block × List Pulse :=
  let b := timerSync cfg { b with cycle := b.cycle + n, cyclesSinceVblank := b.cyclesSinceVblank + n }
  if b.lcdOn then lcdStep { b with scanlineCounter := b.scanlineCounter - n + 1 }
  else lcdStep { b with offCounter := b.offCounter - n + 1 }

/-! ### Scheduler outputs; `serial` and `sound` are the inputs `ext_serial_cycles` and `ext_sound_cycles`, under no
law (R288; log 7) -/

/-- The smaller of a count and a countdown that may be `none`. -/
def minNone (n : Nat) (o : Option Nat) : Nat :=
  match o with
  | some m => min n m
  | none => n

/-- `cyclesToEvent` (R286). -/
def cyclesToEvent (cfg : Cfg) (serial sound : Option Nat) (b : Block) : Nat :=
  minNone (minNone (minNone b.lcdCounter (b.timerCounter cfg)) serial) sound

/-- `cycleBudget` (R287). -/
def cycleBudget (cfg : Cfg) (serial sound : Option Nat) (b : Block) : Nat :=
  if b.brk then 0 else cyclesToEvent cfg serial sound b

/-! ### Running from event to event -/

/-- `n` cycles run as chunks, each up to the next event of the timer or the LCD: a faster form of `cycles`, for
evaluation. `fuel` bounds the number of chunks; the cycles beyond it run one by one. -/
def eventCycles (cfg : Cfg) (fuel n : Nat) (b : Block) : Block × List Pulse :=
  match fuel with
  | 0 => cycles cfg n b
  | fuel + 1 =>
    if n = 0 then (b, [])
    else
      let m := min n (minNone b.lcdCounter (b.timerCounter cfg))
      let one := chunk cfg m b
      let rest := eventCycles cfg fuel (n - m) one.1
      (rest.1, one.2 ++ rest.2)

end Sys2Proof.Machine
end

