-- ==== Sys2Proof/Machine/Interrupts.lean ====
section
/-! DEFINITION. INTC: the meanings of RD_IF, WR_IF, RD_IE, WR_IE, IRQ_REQ, IRQ_ACK, BRK_CLR
(spec/43_interrupt_controller.md). -/

namespace Sys2Proof.Machine

/-- RD_IF (R250): all 8 bits as stored. -/
def execRdIf (s : State) : Host.Outcome State Fault Refusal := answerByte s s.blk.ifr

/-- WR_IF (R251): the whole byte is replaced, then the break test. -/
def execWrIf (v : Byte) (s : State) : Host.Outcome State Fault Refusal :=
  done s { s.blk with ifr := v }.testBreak

/-- RD_IE (R252). -/
def execRdIe (s : State) : Host.Outcome State Fault Refusal := answerByte s s.blk.ie

/-- WR_IE (R253): the whole byte is replaced, then the break test. -/
def execWrIe (v : Byte) (s : State) : Host.Outcome State Fault Refusal :=
  done s { s.blk with ie := v }.testBreak

/-- IRQ_REQ (R254); ids 5 to 7 are reserved (R113). -/
def execIrqReq (id : BitVec 3) (s : State) : Host.Outcome State Fault Refusal :=
  match IrqSource.ofId id with
  | some src => done s (requestInterrupt src s.blk)
  | none => .refused .reservedEvent

/-- IRQ_ACK (R258): clear the selected bit and answer the source and its vector; with nothing selectable, answer
none and change nothing. -/
def execIrqAck (s : State) : Host.Outcome State Fault Refusal :=
  done s (acknowledge s.blk) (.ack (s.blk.irqSelect.map fun src => (src, src.vector)))

/-- BRK_CLR (R259). -/
def execBrkClr (s : State) : Host.Outcome State Fault Refusal := done s { s.blk with brk := false }

end Sys2Proof.Machine
end

