-- ==== Sys2Proof/Machine/System.lean ====
section
/-! DEFINITION. The meanings of RESET and LOAD_STATE (spec/70_reset_and_hazards.md). -/

namespace Sys2Proof.Machine

/-- RESET (R350): the aggregate of R58, with a fresh power-on draw for the memories (log 4); a new session, in which
BOOTOFF has not been written. -/
def execReset (s : State) : Host.Outcome State Fault Refusal :=
  .next { s.complete (Block.reset s.cfg s.draws) .none [] with bootoffWritten := false, draws := s.draws + 1 }

/-- The aggregate LOAD_STATE establishes from a legal snapshot (R353): the timer latch is set to the cycle, the
divider latch so that the DIV byte is kept and the 8 bits below it are cleared, and the page table is refreshed. -/
def resynchronised (cfg : Cfg) (b : Block) : Block :=
  let d := b.divByte.toNat
  mapBanks cfg { b with lastTimerCycle := b.cycle, lastDividerCycle := b.cycle - (d <<< 8) }

/-- Whether BOOTOFF counts as written since RESET once the snapshot `b` is loaded: it was written in this session, or
the snapshot itself shows that it was in the one it comes from (log 13). -/
def writtenOnLoad (b : Block) (s : State) : Bool := s.bootoffWritten || b.showsBootoff s.cfg

/-- LOAD_STATE (R353). A snapshot with the overlay active is refused once BOOTOFF was written, so that only RESET maps
it again (INV8 of R54, R45, R350). The counter of free values stays ahead of every power-on draw the snapshot names
(log 4). -/
def execLoadState (b : Block) (s : State) : Host.Outcome State Fault Refusal :=
  if b.legal s.cfg (writtenOnLoad b s) then
    .next { s.complete (resynchronised s.cfg b) .none [] with
            bootoffWritten := writtenOnLoad b s, draws := max s.draws (b.memDraw + 1) }
  else .refused .badSnapshot

end Sys2Proof.Machine
end

