-- ==== Sys2Proof/Machine/Dispatch.lean ====
section
/-! DEFINITION. One arm per operation: its meaning (spec/30_encoding.md R103, R105, column "semantics"). -/

namespace Sys2Proof.Machine

/-- Perform one operation. -/
def exec (i : Instr) (s : State) : Host.Outcome State Fault Refusal :=
  match i with
  | .wrDiv v => Sys2Proof.Machine.execWrDiv v s
  | .wrTima v => Sys2Proof.Machine.execWrTima v s
  | .wrTma v => Sys2Proof.Machine.execWrTma v s
  | .wrTac v => Sys2Proof.Machine.execWrTac v s
  | .wrIf v => Sys2Proof.Machine.execWrIf v s
  | .wrLcdc v => Sys2Proof.Machine.execWrLcdc v s
  | .wrStat v => Sys2Proof.Machine.execWrStat v s
  | .wrLy v => Sys2Proof.Machine.execWrLy v s
  | .wrLyc v => Sys2Proof.Machine.execWrLyc v s
  | .wrVbk v => Sys2Proof.Machine.execWrVbk v s
  | .wrBootoff v => Sys2Proof.Machine.execWrBootoff v s
  | .wrSvbk v => Sys2Proof.Machine.execWrSvbk v s
  | .wrIe v => Sys2Proof.Machine.execWrIe v s
  | .wrHram addr v => Sys2Proof.Machine.execWrHram addr v s
  | .wrIo addr v => Sys2Proof.Machine.execWrIo addr v s
  | .wrOam addr v => Sys2Proof.Machine.execWrOam addr v s
  | .wrUnused addr v => Sys2Proof.Machine.execWrUnused addr v s
  | .wrEcho1 addr v => Sys2Proof.Machine.execWrEcho1 addr v s
  | .wrEcho0 addr v => Sys2Proof.Machine.execWrEcho0 addr v s
  | .wrWramx addr v => Sys2Proof.Machine.execWrWramx addr v s
  | .wrWram0 addr v => Sys2Proof.Machine.execWrWram0 addr v s
  | .wrXram addr v => Sys2Proof.Machine.execWrXram addr v s
  | .wrVram addr v => Sys2Proof.Machine.execWrVram addr v s
  | .wrRom addr v => Sys2Proof.Machine.execWrRom addr v s
  | .rdDiv => Sys2Proof.Machine.execRdDiv s
  | .rdTima => Sys2Proof.Machine.execRdTima s
  | .rdTma => Sys2Proof.Machine.execRdTma s
  | .rdTac => Sys2Proof.Machine.execRdTac s
  | .rdIf => Sys2Proof.Machine.execRdIf s
  | .rdLcdc => Sys2Proof.Machine.execRdLcdc s
  | .rdStat => Sys2Proof.Machine.execRdStat s
  | .rdLy => Sys2Proof.Machine.execRdLy s
  | .rdLyc => Sys2Proof.Machine.execRdLyc s
  | .rdIe => Sys2Proof.Machine.execRdIe s
  | .rdHram addr => Sys2Proof.Machine.execRdHram addr s
  | .rdIo addr => Sys2Proof.Machine.execRdIo addr s
  | .rdOam addr => Sys2Proof.Machine.execRdOam addr s
  | .rdUnused addr => Sys2Proof.Machine.execRdUnused addr s
  | .rdEcho1 addr => Sys2Proof.Machine.execRdEcho1 addr s
  | .rdEcho0 addr => Sys2Proof.Machine.execRdEcho0 addr s
  | .rdWramx addr => Sys2Proof.Machine.execRdWramx addr s
  | .rdWram0 addr => Sys2Proof.Machine.execRdWram0 addr s
  | .rdXram addr => Sys2Proof.Machine.execRdXram addr s
  | .rdVram addr => Sys2Proof.Machine.execRdVram addr s
  | .rdRomx addr => Sys2Proof.Machine.execRdRomx addr s
  | .rdRom0 addr => Sys2Proof.Machine.execRdRom0 addr s
  | .tick n => Sys2Proof.Machine.execTick n s
  | .irqReq id => Sys2Proof.Machine.execIrqReq id s
  | .irqAck => Sys2Proof.Machine.execIrqAck s
  | .brkClr => Sys2Proof.Machine.execBrkClr s
  | .speedSwitch => Sys2Proof.Machine.execSpeedSwitch s
  | .mbcRombank n => Sys2Proof.Machine.execMbcRombank n s
  | .mbcRambank n => Sys2Proof.Machine.execMbcRambank n s
  | .mbcRamen b => Sys2Proof.Machine.execMbcRamen b s
  | .reset => Sys2Proof.Machine.execReset s
  | .loadState snap => Sys2Proof.Machine.execLoadState snap s

end Sys2Proof.Machine
end

