-- ==== Sys2Proof/Machine/Step.lean ====
section
/-! DEFINITION. The step: take the oldest word presented on the ports, decode it, perform the operation
(spec/00_scope.md R13; spec/30_encoding.md R102, R105). -/

namespace Sys2Proof.Machine

/-- How a word the decoder rejects ends (R113; log 10). -/
def refusalOf : Reject → Refusal
  | .reservedSelector => .reservedEvent
  | .operandKind | .noRow => .malformedWord

/-- Perform the operation a word stands for. -/
def performWord (w : PortWord) (s : State) : Host.Outcome State Fault Refusal :=
  match decode w with
  | .instr i => exec i s
  | .reject r => .refused (refusalOf r)

/-- One step: the oldest word presented is taken off the port and performed. With nothing presented the machine
waits: no operation, no time (log 1). -/
def step (s : State) : Host.Outcome State Fault Refusal :=
  match s.port with
  | [] => .next s
  | w :: rest => performWord w { s with port := rest }

/-- The word an agent presents for a table row's bits; bits that are no word of the formats are presented as a
reserved EVT word. -/
def fetchWord (nbits w : Nat) : PortWord := (tablePortWord nbits w).getD (.evt 0xF .none)

/-- `s` with the operation of a table word presented first, so that the next step performs exactly it (log 1). -/
def State.withFetchWord (s : State) (nbits w : Nat) : State := { s with port := fetchWord nbits w :: s.port }

end Sys2Proof.Machine
end

