-- ==== Sys2Proof/Machine/Contract.lean ====
section
/-! DEFINITION. The contract of the excluded CPU and run loop with the block (spec/60_exceptions.md R318 to R322;
spec/44_clock_scheduler.md R290, R291): MemRead and MemWrite, interrupt dispatch, return from a handler, chunks of
opcodes, halt, the mid-opcode quirk, the run loop, and who issues what (spec/70_reset_and_hazards.md R362). These are
functions over the CPU-side values and the block's state; they issue operations, and `step` does not depend on them
(log 16). -/

namespace Sys2Proof.Machine

/-- The CPU-side values the contract names (R318); they are no state of the block (spec/10_state.md R57). -/
structure CpuSide where
  /-- the global interrupt enable -/
  ime : Bool
  halted : Bool
  sp : Addr
  pc : Addr
  /-- cycles to be added to the next TICK (R290 step 2, R318 step 8) -/
  owed : Nat
  deriving DecidableEq, Repr

/-- Where a CPU starts fetching after RESET, by the convention of spec/70_reset_and_hazards.md R351: at 0x0000 with a
boot image, else at 0x0100. The block itself has no reset vector. -/
def entryPoint (cfg : Cfg) : Addr := if cfg.bootRomPresent then 0x0000 else 0x0100

/-- Go on with a next state; a fault or a refusal ends the sequence. -/
def andThen {α β : Type} (o : Host.Outcome α Fault Refusal) (f : α → Host.Outcome β Fault Refusal) :
    Host.Outcome β Fault Refusal :=
  match o with
  | .next a => f a
  | .fault r => .fault r
  | .refused r => .refused r

/-! ### The bus port (spec/40_mmu_bank_page_table.md R136, R137) -/

/-- `MemRead(addr, 1)`: decode the word `0 ++ addr` and perform the row it selects; the byte is in `out.reply`. -/
def memRead (a : Addr) (s : State) : Host.Outcome State Fault Refusal := performWord (busRead a) s

/-- `MemWrite(addr, 1, v)`: decode the word `1 ++ addr` and perform the row it selects. -/
def memWrite (a : Addr) (v : Byte) (s : State) : Host.Outcome State Fault Refusal := performWord (busWrite a v) s

/-- The byte the last operation returned; open bus if it returned none (it always follows a bus read). -/
def Outputs.byte (o : Outputs) : Byte :=
  match o.reply with
  | .rdata v => v
  | _ => Config.openBus

/-! ### Dispatch and return -/

/-- The precondition of a dispatch: `IME = 1 and irq_select != none` (R318). -/
def canDispatch (c : CpuSide) (s : State) : Bool := c.ime && s.blk.irqSelect.isSome

/-- The dispatch (R318), steps 1 to 8: acknowledge, push `pc` high byte first so that the low byte lies at the lower
address, jump to the vector, owe the dispatch cost. Without the precondition nothing is dispatched. -/
def dispatch (c : CpuSide) (s : State) : Host.Outcome (CpuSide × State) Fault Refusal :=
  match s.blk.irqSelect with
  | none => .next (c, s)
  | some src =>
    if c.ime then
      andThen (execIrqAck s) fun s1 =>
      andThen (memWrite (c.sp - 1) (c.pc.extractLsb' 8 8) s1) fun s2 =>
      andThen (memWrite (c.sp - 2) (c.pc.extractLsb' 0 8) s2) fun s3 =>
      .next ({ ime := false, halted := false, sp := c.sp - 2, pc := src.vector
               owed := c.owed + s.cfg.irqDispatchCycles }, s3)
    else .next (c, s)

/-- Return from a handler (R322): pop `pc`, low byte from `sp`, high byte from `sp + 1`; `IME <- 1`. -/
def returnFromHandler (c : CpuSide) (s : State) : Host.Outcome (CpuSide × State) Fault Refusal :=
  andThen (memRead c.sp s) fun s1 =>
  andThen (memRead (c.sp + 1) s1) fun s2 =>
  .next ({ c with ime := true, pc := s2.out.byte ++ s1.out.byte, sp := c.sp + 2 }, s2)

/-! ### Who issues what (spec/30_encoding.md R105; spec/70_reset_and_hazards.md R362) -/

/-- The agents of R105's column "issued by": the CPU with the clock and the run loop; the other units (serial, joypad,
cartridge controller, DMA); the platform. -/
inductive Agent where
  | cpu | unit | platform
  deriving DecidableEq, Repr

/-- The agent may issue the operation: an event as R105 says, a bus operation the CPU or a unit (log 19), and RESET and
LOAD_STATE the platform alone. -/
def Agent.mayIssue (who : Agent) : Instr → Bool
  | .reset | .loadState _ => who = .platform
  | .irqReq _ | .mbcRombank _ | .mbcRambank _ | .mbcRamen _ => who = .unit
  | .tick _ | .irqAck | .brkClr | .speedSwitch => who = .cpu
  | .rdDiv | .rdTima | .rdTma | .rdTac | .rdIf | .rdLcdc | .rdStat | .rdLy | .rdLyc | .rdIe
  | .rdHram _ | .rdIo _ | .rdOam _ | .rdUnused _ | .rdEcho1 _ | .rdEcho0 _ | .rdWramx _ | .rdWram0 _
  | .rdXram _ | .rdVram _ | .rdRomx _ | .rdRom0 _
  | .wrDiv _ | .wrTima _ | .wrTma _ | .wrTac _ | .wrIf _ | .wrLcdc _ | .wrStat _ | .wrLy _ | .wrLyc _
  | .wrVbk _ | .wrBootoff _ | .wrSvbk _ | .wrIe _ | .wrHram _ _ | .wrIo _ _ | .wrOam _ _ | .wrUnused _ _
  | .wrEcho1 _ _ | .wrEcho0 _ _ | .wrWramx _ _ | .wrWram0 _ _ | .wrXram _ _ | .wrVram _ _ | .wrRom _ _ =>
    who ≠ .platform

/-- The operation may stand among an opcode's operations: the CPU's own, or a unit's in answer to them (log 19). -/
def amongOpcode (i : Instr) : Bool := Agent.cpu.mayIssue i || Agent.unit.mayIssue i

/-! ### What the CPU does (R290 step 1, R320, R321) -/

/-- One opcode of the excluded CPU, as the contract sees it: the operations it issues, with the events a unit issues in
answer to them (log 19), its cycles beyond `QUIRK_STEP_CYCLES` (an opcode step takes at least 4: R320, R321; log 16),
and the CPU-side values after it. It issues no RESET and no LOAD_STATE (R362). -/
structure Opcode where
  ops : List Instr
  extra : Nat
  ime : Bool
  halted : Bool
  sp : Addr
  pc : Addr
  issued : ops.all amongOpcode = true := by decide
  deriving DecidableEq, Repr

/-- The cycles an opcode uses. -/
def Opcode.cycles (k : Opcode) : Nat := Config.quirkStepCycles + k.extra

/-- The CPU side after an opcode. -/
def Opcode.after (k : Opcode) (c : CpuSide) : CpuSide :=
  { c with ime := k.ime, halted := k.halted, sp := k.sp, pc := k.pc }

/-- Perform operations in order, gathering their pulses. -/
def performAll (ops : List Instr) (s : State) : Host.Outcome (State × List Pulse) Fault Refusal :=
  match ops with
  | [] => .next (s, [])
  | i :: rest =>
    andThen (exec i s) fun t =>
    andThen (performAll rest t) fun r =>
    .next (r.1, t.out.pulses ++ r.2)

/-- The cycles operations tick themselves: a CPU that issues TICK per opcode or per access (R290, R282). -/
def ticksIn (ops : List Instr) : Nat :=
  match ops with
  | .tick n :: rest => n + ticksIn rest
  | _ :: rest => ticksIn rest
  | [] => 0

/-- What the CPU has done in a chunk: the cycles used, those of them it ticked itself, the pulses raised, and the
opcodes it has still to execute. -/
structure Chunk where
  cpu : CpuSide
  st : State
  used : Nat
  ticked : Nat
  pulses : List Pulse
  program : List Opcode
  deriving DecidableEq, Repr

/-- The CPU stops executing opcodes: it used its budget, it halted, or the break flag clamps its budget to 0 (R287,
R290 step 1, R320). -/
def Chunk.ended (budget : Nat) (k : Chunk) : Bool := k.cpu.halted || k.st.blk.brk || decide (budget ≤ k.used)

/-- Execute the opcodes of `program`, whole opcodes only, until the chunk ends (R290 step 1) or no opcode is left. -/
def runOpcodes (budget : Nat) (program : List Opcode) (k : Chunk) : Host.Outcome Chunk Fault Refusal :=
  match program with
  | [] => .next { k with program := [] }
  | op :: rest =>
    if k.ended budget then .next { k with program := op :: rest }
    else
      andThen (performAll op.ops k.st) fun r =>
      runOpcodes budget rest
        { cpu := op.after k.cpu, st := r.1, used := k.used + op.cycles, ticked := k.ticked + ticksIn op.ops
          pulses := k.pulses ++ r.2, program := rest }

/-- The cycles a halted CPU spends in an iteration: none if an interrupt is pending, since it leaves halt; otherwise
the whole budget, a budget of 0 being taken as one opcode step of 4 cycles (R320). -/
def haltCycles (budget : Nat) (s : State) : Nat :=
  if s.blk.irqPending then 0 else if budget = 0 then Config.quirkStepCycles else budget

/-- The run loop between two iterations: the CPU side, the machine, and the opcodes the CPU executes next, in order. -/
structure Loop where
  cpu : CpuSide
  st : State
  program : List Opcode
  deriving DecidableEq, Repr

/-- The CPU's chunk of an iteration (R290 step 1): a halted CPU executes no opcode (R320). -/
def cpuChunk (budget : Nat) (l : Loop) : Host.Outcome Chunk Fault Refusal :=
  let start : Chunk := ⟨l.cpu, l.st, 0, 0, [], l.program⟩
  if l.cpu.halted then .next { start with used := haltCycles budget l.st } else runOpcodes budget l.program start

/-! ### Steps 1 to 5 of the run loop (R290) -/

/-- What the other units do in an iteration: the operations they issue (the serial unit at step 3 of R290; that every
other unit acts there too, and none between the TICK and the dispatch, is the model's choice, log 19), the extra
cycles DMA produces, to be added in the next iteration (step 2), and the external link flag (step 7). No TICK, RESET or
LOAD_STATE is theirs (R105, R362). -/
structure External where
  ops : List Instr
  dma : Nat
  link : Bool
  issued : ops.all Agent.unit.mayIssue = true := by decide
  deriving DecidableEq, Repr

/-- The return reasons (R291). Both may be set. -/
structure Reasons where
  retVblank : Bool
  link : Bool
  deriving DecidableEq, Repr

/-- Reasons of two parts of one iteration. -/
def Reasons.both (a b : Reasons) : Reasons := ⟨a.retVblank || b.retVblank, a.link || b.link⟩

/-- The loop is left (R290 step 7). -/
def Reasons.leave (r : Reasons) : Bool := r.retVblank || r.link

/-- Where an iteration stands after step 5: whether an operation of the CPU's chunk, or the TICK, set `brk` (R321
(a)); the DMA cycles to be owed; the return reasons so far. -/
structure Progress where
  loop : Loop
  broke : Bool
  dma : Nat
  reasons : Reasons
  deriving DecidableEq, Repr

/-- Whether TICK `n` sets `brk`, also if it was set before. -/
def tickBreaks (n : Nat) (s : State) : Bool := (cycles s.cfg n { s.blk with brk := false }).1.brk

/-- Steps 1 to 5: the CPU's chunk, the other units, one TICK of the cycles used and not ticked yet and of the cycles
owed, BRK_CLR. All of the other units' operations come at step 3 (log 19). Where the chunk's own TICKs exceed its
cycles, nothing of it is left to tick and the surplus is not set against the cycles owed: the model's choice, log 20. -/
def account (budget : Nat) (x : External) (l : Loop) : Host.Outcome Progress Fault Refusal :=
  andThen (cpuChunk budget l) fun k =>
  andThen (performAll x.ops k.st) fun e =>
  let n := k.used - k.ticked + k.cpu.owed
  andThen (execTick n e.1) fun t =>
  andThen (execBrkClr t) fun u =>
  .next { loop := ⟨{ k.cpu with owed := 0 }, u, k.program⟩
          broke := (!l.st.blk.brk && k.st.blk.brk) || tickBreaks n e.1
          dma := x.dma
          reasons := ⟨(k.pulses ++ e.2 ++ t.out.pulses).contains .retVblank, x.link⟩ }

/-! ### Step 6: the quirk, halt and dispatch (R321, R320, R318) -/

/-- The extra opcode step is due: the dispatch precondition holds, `brk` was set in this iteration, and the CPU is
not halted (R321 (a), (b); (c) holds because `iteration` takes it once). -/
def Progress.quirkDue (p : Progress) : Bool := canDispatch p.loop.cpu p.loop.st && p.broke && !p.loop.cpu.halted

/-- Steps 2 to 5 again for one more opcode step of budget `QUIRK_STEP_CYCLES`, if it is due (R321). -/
def extraStep (x : External) (p : Progress) : Host.Outcome Progress Fault Refusal :=
  if p.quirkDue then
    andThen (account Config.quirkStepCycles x p.loop) fun q =>
    .next { q with dma := p.dma + q.dma, reasons := p.reasons.both q.reasons }
  else .next p

/-- The CPU leaves halt when an interrupt is pending, whatever IME is (R320). -/
def wake (c : CpuSide) (s : State) : CpuSide := { c with halted := c.halted && !s.blk.irqPending }

/-- What an iteration reads from outside: the countdowns `ext_serial_cycles` and `ext_sound_cycles` (R288), what the
other units do, and what they do in the extra step if there is one. -/
structure Inputs where
  serial : Option Nat
  sound : Option Nat
  other : External
  extra : External
  deriving DecidableEq, Repr

/-- One iteration of the run loop (R290): read the budget, steps 1 to 5, the extra step if it is due, leave halt if an
interrupt is pending, dispatch with `irq_select` evaluated again; DMA cycles are owed to the next iteration. -/
def iteration (i : Inputs) (l : Loop) : Host.Outcome (Loop × Reasons) Fault Refusal :=
  andThen (account (cycleBudget l.st.cfg i.serial i.sound l.st.blk) i.other l) fun p =>
  andThen (extraStep i.extra p) fun q =>
  andThen (dispatch (wake q.loop.cpu q.loop.st) q.loop.st) fun r =>
  .next ({ q.loop with cpu := { r.1 with owed := r.1.owed + q.dma }, st := r.2 }, q.reasons)

/-! ### The platform, between iterations (R362) -/

/-- RESET or LOAD_STATE, the platform's operations (R105). -/
inductive PlatformOp where
  | reset
  | loadState (b : Block)
  deriving DecidableEq, Repr

/-- The block's operation. -/
def PlatformOp.instr : PlatformOp → Instr
  | .reset => .reset
  | .loadState b => .loadState b

/-- An act of the platform: its operation, and the excluded CPU after it, whose values, cycles owed and opcodes the
spec leaves open (R351 to R353; log 21). -/
structure PlatformAct where
  op : PlatformOp
  cpu : CpuSide
  program : List Opcode
  deriving DecidableEq, Repr

/-- Perform acts of the platform in order. No iteration is in progress: they go from one `Loop` to the next. -/
def performPlatform (acts : List PlatformAct) (l : Loop) : Host.Outcome Loop Fault Refusal :=
  match acts with
  | [] => .next l
  | a :: rest => andThen (exec a.op.instr l.st) fun t => performPlatform rest ⟨a.cpu, t, a.program⟩

/-- One turn of the run loop: what the platform does before the iteration, and the iteration's inputs. -/
structure Turn where
  platform : List PlatformAct
  inputs : Inputs
  deriving DecidableEq, Repr

/-- Turns until a return reason is set (R290 step 7) or none is left. RESET and LOAD_STATE come only between the
iterations (R362). -/
def runLoop (turns : List Turn) (l : Loop) : Host.Outcome (Loop × Reasons) Fault Refusal :=
  match turns with
  | [] => .next (l, ⟨false, false⟩)
  | turn :: rest =>
    andThen (performPlatform turn.platform l) fun l1 =>
    andThen (iteration turn.inputs l1) fun r =>
    if r.2.leave then .next r else runLoop rest r.1

end Sys2Proof.Machine
end

