-- ==== Sys2Proof/Machine/Trace.lean ====
section
/-! DEFINITION. The spec's trace lines (spec/30_encoding.md R117, R118): the word of each line, and running a
trace. -/

namespace Sys2Proof.Machine

/-- One line of a trace (R117); the notes `-> xx` of a line are no part of the operation. -/
inductive TraceLine where
  | rd (addr : Addr)
  | wr (addr : Addr) (v : Byte)
  | tick (n : Nat)
  | irq (id : BitVec 3)
  | ack
  | brkclr
  | speed
  | rombank (n : Nat)
  | rambank (n : Nat)
  | ramen (b : Bool)
  | reset
  deriving DecidableEq, Repr

/-- The word a trace line stands for (R117, column "encoding"). -/
def TraceLine.word : TraceLine → PortWord
  | .rd a => busRead a
  | .wr a v => busWrite a v
  | .tick n => .evt 0x0 (.nat n)
  | .irq i => .evt 0x1 (.id i)
  | .ack => .evt 0x2 .none
  | .brkclr => .evt 0x3 .none
  | .speed => .evt 0x4 .none
  | .rombank n => .evt 0x5 (.nat n)
  | .rambank n => .evt 0x6 (.nat n)
  | .ramen b => .evt 0x7 (.bit b)
  | .reset => .evt 0x8 .none

/-- `PUSH16 sp, x`: the two writes of the dispatch contract (R118). -/
def push16 (sp x : Addr) : List TraceLine :=
  [.wr (sp - 1) (x.extractLsb' 8 8), .wr (sp - 2) (x.extractLsb' 0 8)]

/-- The state with a trace presented after what is already waiting. -/
def State.present (s : State) (ls : List TraceLine) : State := { s with port := s.port ++ ls.map TraceLine.word }

/-- Present a trace on an idle port and perform all of it. -/
def runTrace (ls : List TraceLine) (s : State) : Host.Outcome State Fault Refusal :=
  Host.Core.run core ls.length (s.present ls)

end Sys2Proof.Machine
end

