-- ==== Sys2Proof/Safety.lean ====
section
/-! DEFINITION. What claims are stated in: the legal configurations, the invariant of reachable states
(spec/10_state.md R54, R38), and the naive timer of spec/41_timer.md R186. -/

namespace Sys2Proof.Machine

/-! ### Invariants -/

/-- A configuration the spec admits (spec/00_scope.md R8): at least two ROM banks, images in canonical form and
within their sizes, delegated addresses in 0xFF00-0xFF7F. -/
abbrev cfgWf (cfg : Cfg) : Prop :=
  2 ≤ cfg.numRomBanks ∧ Memory.wf (cfg.numRomBanks * 0x4000) cfg.rom ∧ Memory.wf 0x900 cfg.bootRom ∧
    cfg.delegatedIo.all (inRange 0xFF00 0xFF7F) = true

/-- TIMA is synchronised with the cycle counter (R38; INV2 of R54): with the timer running the latch difference is
below one period, with the timer stopped it is 0. -/
abbrev Block.synced (cfg : Cfg) (b : Block) : Prop :=
  if tacEnable b.tac then b.cycle - b.lastTimerCycle < 2 ^ b.timaSh cfg else b.lastTimerCycle = b.cycle

/-- What the aggregate shows of BOOTOFF writes is no more than what happened in the session (R34, R45; log 13). -/
abbrev State.session (s : State) : Prop := s.blk.showsBootoff s.cfg = true → s.bootoffWritten = true

/-- The invariant of the machine: a legal configuration, a legal aggregate in this session (R54), a synchronised
timer. -/
abbrev State.inv (s : State) : Prop :=
  cfgWf s.cfg ∧ s.blk.legal s.cfg s.bootoffWritten = true ∧ s.session ∧ s.blk.synced s.cfg

/-! ### The naive timer of R186 -/

/-- The timer that counts every cycle: a prescaler `sub` and TIMA (R186). -/
structure NaiveTimer where
  sub : Nat
  tima : Byte
  /-- timer interrupts requested so far -/
  requests : Nat
  deriving DecidableEq, Repr

/-- One cycle of the naive timer with TMA `tma` and period `2 ^ sh`: `sub <- sub + 1`; at `2 ^ sh` it restarts and
TIMA ticks, an overflow requesting the interrupt and reloading TMA (R185, R186). While the timer is stopped `sub` is
0. -/
def NaiveTimer.cycle (enabled : Bool) (sh : Nat) (tma : Byte) (t : NaiveTimer) : NaiveTimer :=
  if enabled then
    if t.sub + 1 = 2 ^ sh then
      if t.tima = 0xFF then { sub := 0, tima := tma, requests := t.requests + 1 }
      else { t with sub := 0, tima := t.tima + 1 }
    else { t with sub := t.sub + 1 }
  else { t with sub := 0 }

/-- `n` cycles of the naive timer. -/
def NaiveTimer.run (enabled : Bool) (sh : Nat) (tma : Byte) (n : Nat) (t : NaiveTimer) : NaiveTimer :=
  match n with
  | 0 => t
  | n + 1 => NaiveTimer.run enabled sh tma n (t.cycle enabled sh tma)

/-- Time passes with no synchronisation: only the cycle counter moves (what a lazily updated register sees). -/
def Block.elapse (b : Block) (n : Nat) : Block := { b with cycle := b.cycle + n }

/-! ### What claims say about an operation -/

/-- `t` is `s` after a write of byte `v` to cell `k` of store `st` and nothing else: no answer, no pulse, every
register and every other byte of every store as it was. -/
abbrev storesOnly (s : State) (st : Store) (k : Nat) (v : Byte) (t : State) : Prop :=
  t = { s with
        blk := { s.blk with
          vram := t.blk.vram, xram := t.blk.xram, wram := t.blk.wram
          oam := t.blk.oam, hram := t.blk.hram, io := t.blk.io }
        out := ⟨.none, []⟩ } ∧
    ∀ st' k', t.blk.byteOf st' k' = if st' = st ∧ k' = k then v else s.blk.byteOf st' k'

/-- A bus read of the opcode map (rows 26 to 48). -/
def isBusRead : Instr → Bool
  | .rdDiv | .rdTima | .rdTma | .rdTac | .rdIf | .rdLcdc | .rdStat | .rdLy | .rdLyc | .rdIe => true
  | .rdHram _ | .rdIo _ | .rdOam _ | .rdUnused _ | .rdEcho1 _ | .rdEcho0 _ | .rdWramx _ | .rdWram0 _ => true
  | .rdXram _ | .rdVram _ | .rdRomx _ | .rdRom0 _ => true
  | _ => false

/-- The address reaches a writable backing byte in state `s` (spec/20_memory.md R71, R80): video RAM, mapped
external RAM, work RAM, its echo when mirrored, OAM, high RAM, or a plain-storage I/O byte. -/
def isPlainStorage (s : State) (a : Addr) : Bool :=
  inRange 0x8000 0x9FFF a ||
  (inRange 0xA000 0xBFFF a && xramMapped s.cfg s.blk.ramEnabled && !s.cfg.cartridgeWindow) ||
  inRange 0xC000 0xDFFF a ||
  (inRange 0xE000 0xFDFF a && decide (s.cfg.echoMode = .mirror)) ||
  inRange 0xFE00 0xFE9F a ||
  (inRange 0xFF00 0xFF7F a && !ownWriteRow.contains a && !delegated s.cfg a) ||
  inRange 0xFF80 0xFFFE a

/-- The address reaches nothing in state `s` (R80). -/
def isUnmapped (s : State) (a : Addr) : Bool :=
  inRange 0xFEA0 0xFEFF a ||
  (inRange 0xA000 0xBFFF a && !xramMapped s.cfg s.blk.ramEnabled && !s.cfg.cartridgeWindow) ||
  (inRange 0xE000 0xFDFF a && decide (s.cfg.echoMode = .openBus))

end Sys2Proof.Machine
end

