-- ==== Sys2Proof/Certificates/Slice0/Obligations.lean ====
section
/-! DEFINITION. The statements for the provers. Each docstring names the rules of spec/ it rests on; a statement
about a state is about every state, reachable or not, unless an invariant is a premise of it. -/

open Sys2Proof Sys2Proof.Machine

/-- For every operation whose address operand lies in the range of its row, with every operand value, the decoder
reads the encoder's word as that operation. The spec marks as its own decision or inference: R103 (general
knowledge). Rests on 30_encoding.md R102, 30_encoding.md R103, 30_encoding.md R105. -/
def Obligations.DecodeOfEncodeIsTheOperation : Prop :=
  ∀ i : Instr, i.wellFormed = true → decode (encode i) = .instr i

/-- Every 17-bit BUS word with every data byte decodes to a well-formed operation, whose own word is the same BUS
word, with the data byte on a write (rw = 1) and a zero byte on a read (a read has no data byte, R101; that the
model's encoder writes zero there is the model's choice, log 10). The spec marks as its own decision or inference:
R119 (derived). Rests on 30_encoding.md R101, 30_encoding.md R102, 30_encoding.md R113, 30_encoding.md R119,
notes/assumptions/10.md. -/
def Obligations.EveryBusWordSelectsOneWellFormedOperation : Prop :=
  ∀ (word : BusWord) (wdata : Byte), ∃ i : Instr,
    decode (.bus word wdata) = .instr i ∧ i.wellFormed = true ∧
      encode i = .bus word (if word.getLsbD 16 then wdata else 0)

/-- If an EVT word decodes to an operation, the operation is well formed and its encoding is that EVT word, selector
and operand. The spec marks as its own decision or inference: R104 (92_eei_decisions.md D37). Rests on
30_encoding.md R104, 30_encoding.md R105. -/
def Obligations.DecodedEventWordIsTheEncodedWord : Prop :=
  ∀ (sel : BitVec 4) (o : EvtOperand) (i : Instr),
    decode (.evt sel o) = .instr i → i.wellFormed = true ∧ encode i = .evt sel o

/-- One word or more of each family, written out from the opcode map: 0x1FF07 is WR_TAC, 0x0FF04 RD_DIV, 0x1FF40
WR_LCDC, 0x0FF41 RD_STAT, 0x1FF0F WR_IF, 0x0FFFF RD_IE, 0x1FF70 WR_SVBK but 0x0FF70 RD_IO, 0x0FE9F RD_OAM but
0x0FEA0 RD_UNUSED, 0x12100 WR_ROM, 0x04000 RD_ROMX, selector 0x0 TICK, 0x9 LOAD_STATE. The spec marks as its own
decision or inference: R103 (general knowledge). Rests on 30_encoding.md R103, 30_encoding.md R105,
95_test_vectors.md section 2.4 B9. -/
def Obligations.SampleWordsDecodeAsTheTableSays : Prop :=
  decode (.bus 0x1FF07 0x05) = .instr (.wrTac 0x05) ∧
  decode (.bus 0x0FF04 0x00) = .instr .rdDiv ∧
  decode (.bus 0x1FF40 0x80) = .instr (.wrLcdc 0x80) ∧
  decode (.bus 0x0FF41 0x00) = .instr .rdStat ∧
  decode (.bus 0x1FF0F 0x16) = .instr (.wrIf 0x16) ∧
  decode (.bus 0x0FFFF 0x00) = .instr .rdIe ∧
  decode (.bus 0x1FF70 0x0B) = .instr (.wrSvbk 0x0B) ∧
  decode (.bus 0x0FF70 0x00) = .instr (.rdIo 0xFF70) ∧
  decode (.bus 0x0FE9F 0x00) = .instr (.rdOam 0xFE9F) ∧
  decode (.bus 0x0FEA0 0x00) = .instr (.rdUnused 0xFEA0) ∧
  decode (.bus 0x12100 0x05) = .instr (.wrRom 0x2100 0x05) ∧
  decode (.bus 0x04000 0x00) = .instr (.rdRomx 0x4000) ∧
  decode (.evt 0x0 (.nat 64)) = .instr (.tick 64) ∧
  decode (.evt 0x1 (.id 2)) = .instr (.irqReq 2) ∧
  ∀ s, decode (.evt 0x9 (.aggregate s)) = .instr (.loadState s)

/-- When the oldest word on the port decodes to an operation, the step is exec of that operation at the state with
that word taken off. A word with a reserved selector is refused as ReservedEvent, a word of no format as
malformedWord. With nothing presented the state stays as it is (the port queue and the idle step are the model's
choice, log 1; malformedWord is log 10). Rests on 00_scope.md R13, 30_encoding.md R100, 30_encoding.md R102,
notes/assumptions/1.md, notes/assumptions/10.md. -/
def Obligations.StepPerformsTheOldestWordPresented : Prop :=
  ∀ s : State,
    (s.port = [] → step s = .next s) ∧
    ∀ (w : PortWord) (rest : List PortWord), s.port = w :: rest →
      (∀ i, decode w = .instr i → step s = exec i { s with port := rest }) ∧
      (decode w = .reject .reservedSelector → step s = .refused .reservedEvent) ∧
      (decode w = .reject .operandKind → step s = .refused .malformedWord)

/-- Selectors 0xA to 0xF with every operand, IRQ_REQ ids 5 to 7, MBC_ROMBANK and MBC_RAMBANK indexes out of range, and
SPEED_SWITCH on a classic machine are refused as ReservedEvent; selectors 0x0 to 0x9 are never rejected as
reserved. Rests on 30_encoding.md R113, 60_exceptions.md R311. -/
def Obligations.ReservedEventsAreRefused : Prop :=
  (∀ (sel : BitVec 4) (o : EvtOperand), decode (.evt sel o) = .reject .reservedSelector ↔ 10 ≤ sel.toNat) ∧
  ∀ s : State,
    (∀ id : BitVec 3, 5 ≤ id.toNat → exec (.irqReq id) s = .refused .reservedEvent) ∧
    (∀ n, s.cfg.numRomBanks ≤ n → exec (.mbcRombank n) s = .refused .reservedEvent) ∧
    (∀ n, max s.cfg.numRamBanks 1 ≤ n → exec (.mbcRambank n) s = .refused .reservedEvent) ∧
    (s.cfg.cgb = false → exec .speedSwitch s = .refused .reservedEvent)

/-- In every state whose cartridge controller does not claim the window 0xA000-0xBFFF, MemRead and MemWrite of every
address and byte answer a next state, and a read returns a byte: there is no fault, no refusal and no protection.
The spec marks as its own decision or inference: R77 (92_eei_decisions.md D32). Rests on 60_exceptions.md R310,
20_memory.md R77, 20_memory.md R82, 30_encoding.md R113. -/
def Obligations.BusOperationsNeverFail : Prop :=
  ∀ (s : State) (a : Addr) (v : Byte), s.cfg.cartridgeWindow = false →
    (∃ t x, memRead a s = .next t ∧ t.out.reply = .rdata x) ∧ ∃ t, memWrite a v s = .next t

/-- RD_DIV answers the byte ((cycle - lastDividerCycle) >> 8) & 0xFF and leaves every register, memory byte and port
as it was, whatever TAC and ds are; it wraps from 0xFF to 0x00 every 65536 cycles. Rests on R175. -/
def Obligations.DivReadIsTheHighByteOfTheDividerCount : Prop :=
  ∀ s : State, ∃ v : Byte,
    exec .rdDiv s = .next { s with out := ⟨.rdata v, []⟩ } ∧
      v.toNat = ((s.blk.cycle - s.blk.lastDividerCycle) % 65536) / 256

/-- WR_DIV of any value stores cycle in lastDividerCycle; TIMA, its latch and every other register, flag and memory
byte stay as they were. The spec marks as its own decision or inference: R176 (92_eei_decisions.md D7). Rests on
41_timer.md R176, 10_state.md R23. -/
def Obligations.DivWriteLatchesTheCycle : Prop :=
  ∀ (s : State) (v : Byte),
    exec (.wrDiv v) s =
      .next { s with blk := { s.blk with lastDividerCycle := s.blk.cycle }, out := ⟨.none, []⟩ }

/-- From every state, whatever TAC, ds and the LCD do: WR_DIV of any value, then TICK n, then RD_DIV returns floor(n /
256) mod 256; so the first increment comes exactly 256 cycles after the write. The spec marks as its own decision
or inference: R176 (92_eei_decisions.md D7); R187 (derived); R280 (92_eei_decisions.md D1, D45). Rests on
41_timer.md R176, 41_timer.md R187, 44_clock_scheduler.md R280. -/
def Obligations.DivCountsTicksSinceItsWrite : Prop :=
  ∀ (s : State) (v : Byte) (n : Nat), ∃ t u : State,
    exec (.wrDiv v) s = .next t ∧ exec (.tick n) t = .next u ∧
      exec .rdDiv u = .next { u with out := ⟨.rdata (BitVec.ofNat 8 (n / 256)), []⟩ }

/-- RD_TIMA synchronises and returns TIMA; WR_TIMA synchronises and then stores, so the written value wins; WR_TMA
synchronises under the old TMA and then stores; WR_TAC synchronises under the old TAC, stores, and sets
lastTimerCycle to cycle. Nothing else changes. The spec marks as its own decision or inference: R178
(92_eei_decisions.md D6); R182 (92_eei_decisions.md D6). Rests on 41_timer.md R173, 41_timer.md R177, 41_timer.md
R178, 41_timer.md R180, 41_timer.md R182. -/
def Obligations.TimaAccessesSynchroniseFirst : Prop :=
  ∀ (s : State) (v : Byte),
    exec .rdTima s = .next { s with blk := timerSync s.cfg s.blk, out := ⟨.rdata (timerSync s.cfg s.blk).tima, []⟩ } ∧
    exec (.wrTima v) s = .next { s with blk := { timerSync s.cfg s.blk with tima := v }, out := ⟨.none, []⟩ } ∧
    exec (.wrTma v) s = .next { s with blk := { timerSync s.cfg s.blk with tma := v }, out := ⟨.none, []⟩ } ∧
    exec (.wrTac v) s =
      .next { s with
        blk := { timerSync s.cfg s.blk with tac := v, lastTimerCycle := s.blk.cycle }
        out := ⟨.none, []⟩ }

/-- Each of the eight reads returns its stored register, all 8 bits, and leaves every register, flag and memory byte
as it was. That the unused bits of TAC and IF read as stored is the spec's own decision D9. The spec marks as its
own decision or inference: R181 (92_eei_decisions.md D9); R250 (92_eei_decisions.md D9). Rests on 41_timer.md
R179, 41_timer.md R181, 42_lcd_timing.md R201, 42_lcd_timing.md R203, 42_lcd_timing.md R205, 42_lcd_timing.md
R208, 43_interrupt_controller.md R250, 43_interrupt_controller.md R252. -/
def Obligations.RegisterReadsReturnTheStoredByte : Prop :=
  ∀ s : State,
    let reads := fun (i : Instr) (v : Byte) => exec i s = .next { s with out := ⟨.rdata v, []⟩ }
    reads .rdTma s.blk.tma ∧ reads .rdTac s.blk.tac ∧ reads .rdLcdc s.blk.lcdc ∧ reads .rdStat s.blk.stat ∧
    reads .rdLy s.blk.ly ∧ reads .rdLyc s.blk.lyc ∧ reads .rdIf s.blk.ifr ∧ reads .rdIe s.blk.ie

/-- With the period 2^sh of TAC[1:0] (10, 4, 6, 8, plus TIMA_DS_SCALE under double speed) and c = TIMA plus the whole
periods elapsed: with TAC[2] = 1 the latch keeps the remainder, TIMA becomes c, or TMA + (c - 256) mod (256 - TMA)
after the overflows, IF[2] is set and brk tested exactly when there is an overflow; with TAC[2] = 0 the latch
becomes cycle. No other field changes. The spec marks as its own decision or inference: R171 (92_eei_decisions.md
D3); R172 (92_eei_decisions.md D5); R185 (92_eei_decisions.md D8). Rests on 41_timer.md R171, 41_timer.md R172,
41_timer.md R185. -/
def Obligations.TimerSyncHasTheClosedFormOfItsLoop : Prop :=
  ∀ (cfg : Cfg) (b : Block), b.lastTimerCycle ≤ b.cycle →
    let period :=
      2 ^ (([10, 4, 6, 8] : List Nat).getD (b.tac.toNat % 4) 0 + cfg.timaDsScale.val * (if b.ds then 1 else 0))
    let c := b.tima.toNat + (b.cycle - b.lastTimerCycle) / period
    timerSync cfg b =
      if b.tac.getLsbD 2 then
        { b with
          lastTimerCycle := b.cycle - (b.cycle - b.lastTimerCycle) % period
          tima := BitVec.ofNat 8 (if c < 256 then c else b.tma.toNat + (c - 256) % (256 - b.tma.toNat))
          ifr := if c < 256 then b.ifr else b.ifr ||| 0x04
          brk := b.brk || (decide (256 ≤ c) && decide ((b.ifr ||| 0x04) &&& b.ie ≠ 0)) }
      else { b with lastTimerCycle := b.cycle }

/-- For every synchronised timer, every TMA, TAC and speed and every number n of cycles: letting n cycles elapse and
synchronising once gives the TIMA, the latch difference and the IF[2] that n cycles of the naive prescaler timer
give, several reload overflows included. The spec marks as its own decision or inference: R186 (derived). Rests on
41_timer.md R186, 95_test_vectors.md section 1 S1. -/
def Obligations.LazyTimerEqualsTheNaiveTimer : Prop :=
  ∀ (cfg : Cfg) (b : Block) (n : Nat), b.lastTimerCycle ≤ b.cycle → b.synced cfg →
    let naive := NaiveTimer.run (tacEnable b.tac) (b.timaSh cfg) b.tma n ⟨b.cycle - b.lastTimerCycle, b.tima, 0⟩
    let lazy := timerSync cfg (b.elapse n)
    lazy.tima = naive.tima ∧ lazy.cycle - lazy.lastTimerCycle = naive.sub ∧
      lazy.ifr = if naive.requests = 0 then b.ifr else b.ifr ||| 0x04

/-- Letting m cycles elapse, synchronising, letting n more elapse and synchronising gives the same aggregate as
letting m + n elapse and synchronising once; with m = n = 0 this is idempotence. The spec marks as its own
decision or inference: R186 (derived). Rests on 41_timer.md R173, 41_timer.md R186. -/
def Obligations.SynchronisingAtExtraPointsChangesNothing : Prop :=
  ∀ (cfg : Cfg) (b : Block) (m n : Nat), b.lastTimerCycle ≤ b.cycle →
    timerSync cfg ((timerSync cfg (b.elapse m)).elapse n) = timerSync cfg (b.elapse (m + n))

/-- In every state with the invariant: timerCounter is none exactly when TAC[2] = 0; a value n lies in 1 .. 256 << sh,
fewer than n cycles leave IF[2] as it was, and after exactly n cycles IF[2] is 1 and TIMA holds TMA. The spec
marks as its own decision or inference: R184 (derived); R183 (92_eei_decisions.md D8); R185 (92_eei_decisions.md
D8). Rests on 41_timer.md R184, 41_timer.md R183, 41_timer.md R185. -/
def Obligations.TimerCounterIsTheExactNextOverflow : Prop :=
  ∀ s : State, s.inv →
    (s.blk.timerCounter s.cfg = none ↔ s.blk.tac.getLsbD 2 = false) ∧
    ∀ n, s.blk.timerCounter s.cfg = some n →
      1 ≤ n ∧ n ≤ 256 <<< s.blk.timaSh s.cfg ∧
      (∀ m < n, (cycles s.cfg m s.blk).1.ifr.getLsbD 2 = s.blk.ifr.getLsbD 2) ∧
      (cycles s.cfg n s.blk).1.ifr.getLsbD 2 = true ∧ (cycles s.cfg n s.blk).1.tima = s.blk.tma

/-- WR_STAT changes STAT only: bits 7 to 3 become those of the written byte, the mode and the match flag stay; IF and
brk are unchanged even when an enabled condition is true. WR_LY of any value changes no register, no flag and no
memory byte, and does not re-check the match. The spec marks as its own decision or inference: R204
(92_eei_decisions.md D19); R206 (92_eei_decisions.md D20). Rests on 42_lcd_timing.md R204, 42_lcd_timing.md R206. -/
def Obligations.StatAndLyWritesKeepTheLiveStatus : Prop :=
  ∀ (s : State) (v : Byte),
    (∃ st : Byte,
      exec (.wrStat v) s = .next { s with blk := { s.blk with stat := st }, out := ⟨.none, []⟩ } ∧
        ∀ i < 8, st.getLsbD i = if i < 3 then s.blk.stat.getLsbD i else v.getLsbD i) ∧
    exec (.wrLy v) s = .next { s with out := ⟨.none, []⟩ }

/-- WR_LYC stores the byte; STAT[2] becomes LY = LYC; IF[1] is set and brk tested exactly when the flag goes from 0 to
1 with STAT[6] = 1; every other field is unchanged. The spec marks as its own decision or inference: R207
(92_eei_decisions.md D21); R220 (92_eei_decisions.md D21). Rests on 42_lcd_timing.md R207, 42_lcd_timing.md R220. -/
def Obligations.LycWriteStoresAndChecksTheMatch : Prop :=
  ∀ (s : State) (v : Byte),
    let m := decide (s.blk.ly = v)
    let fire := m && !s.blk.stat.getLsbD 2 && s.blk.stat.getLsbD 6
    exec (.wrLyc v) s =
      .next { s with
        blk := { s.blk with
          lyc := v
          stat := if m then s.blk.stat ||| 0x04 else s.blk.stat &&& 0xFB
          ifr := if fire then s.blk.ifr ||| 0x02 else s.blk.ifr
          brk := s.blk.brk || (fire && decide ((s.blk.ifr ||| 0x02) &&& s.blk.ie ≠ 0)) }
        out := ⟨.none, []⟩ }

/-- A write that does not change bit 7 only stores the byte. Turning off also sets LY and the mode to 0, re-checks the
match (requesting STAT on a new enabled match), and reloads offCounter with 70680 << ds. Turning on also sets mode
2, requests STAT if STAT[5], and reloads scanlineCounter with 80 << ds. Nothing else changes. The spec marks as
its own decision or inference: R202 (92_eei_decisions.md D15); R213 (92_eei_decisions.md D16); R220
(92_eei_decisions.md D21). Rests on 42_lcd_timing.md R202, 42_lcd_timing.md R213, 42_lcd_timing.md R220. -/
def Obligations.LcdcWriteSwitchesTheLcd : Prop :=
  ∀ (s : State) (v : Byte),
    (v.getLsbD 7 = s.blk.lcdc.getLsbD 7 →
      exec (.wrLcdc v) s = .next { s with blk := { s.blk with lcdc := v }, out := ⟨.none, []⟩ }) ∧
    (s.blk.lcdc.getLsbD 7 = true → v.getLsbD 7 = false →
      let m := decide (s.blk.lyc = 0)
      let fire := m && !s.blk.stat.getLsbD 2 && s.blk.stat.getLsbD 6
      exec (.wrLcdc v) s =
        .next { s with
          blk := { s.blk with
            lcdc := v
            ly := 0
            stat := (s.blk.stat &&& 0xF8) ||| (if m then 0x04 else 0x00)
            offCounter := 70680 * (if s.blk.ds then 2 else 1)
            ifr := if fire then s.blk.ifr ||| 0x02 else s.blk.ifr
            brk := s.blk.brk || (fire && decide ((s.blk.ifr ||| 0x02) &&& s.blk.ie ≠ 0)) }
          out := ⟨.none, []⟩ }) ∧
    (s.blk.lcdc.getLsbD 7 = false → v.getLsbD 7 = true →
      let fire := s.blk.stat.getLsbD 5
      exec (.wrLcdc v) s =
        .next { s with
          blk := { s.blk with
            lcdc := v
            stat := (s.blk.stat &&& 0xFC) ||| 0x02
            scanlineCounter := 80 * (if s.blk.ds then 2 else 1)
            ifr := if fire then s.blk.ifr ||| 0x02 else s.blk.ifr
            brk := s.blk.brk || (fire && decide ((s.blk.ifr ||| 0x02) &&& s.blk.ie ≠ 0)) }
          out := ⟨.none, []⟩ })

/-- With the LCD on and more than one cycle left, lcd_step lowers scanlineCounter by one and does nothing else. With
the LCD off it lowers offCounter by one, and on the last cycle reloads it with 70680 << ds, clears
cyclesSinceVblank and pulses ret_vblank; no interrupt, LY or STAT changes. With the LCD on and one cycle left:
Mode 2 becomes Mode 3 with 172 << ds cycles, pulses the scanline-start hook and requests nothing; Mode 3 becomes
Mode 0 with 204 << ds cycles, requests STAT if STAT[3], and pulses the scanline-end hook and the HBlank-DMA
strobe. Nothing else changes. The spec marks as its own decision or inference: R210 (92_eei_decisions.md D1); R211
(92_eei_decisions.md D18); R215 (92_eei_decisions.md D44). Rests on 42_lcd_timing.md R210, 42_lcd_timing.md R211,
42_lcd_timing.md R214, 42_lcd_timing.md R215, 42_lcd_timing.md R221. -/
def Obligations.LcdCountersCountDownAndDrawingModesFollow : Prop :=
  ∀ b : Block,
    let scale := if b.ds then 2 else 1
    (b.lcdc.getLsbD 7 = true → 2 ≤ b.scanlineCounter →
      lcdStep b = ({ b with scanlineCounter := b.scanlineCounter - 1 }, [])) ∧
    (b.lcdc.getLsbD 7 = false → 2 ≤ b.offCounter →
      lcdStep b = ({ b with offCounter := b.offCounter - 1 }, [])) ∧
    (b.lcdc.getLsbD 7 = false → b.offCounter = 1 →
      lcdStep b = ({ b with offCounter := 70680 * scale, cyclesSinceVblank := 0 }, [.retVblank])) ∧
    (b.lcdc.getLsbD 7 = true → b.scanlineCounter = 1 → b.stat.extractLsb' 0 2 = 2 →
      lcdStep b = ({ b with stat := b.stat ||| 0x03, scanlineCounter := 172 * scale }, [.hookScanlineStart])) ∧
    (b.lcdc.getLsbD 7 = true → b.scanlineCounter = 1 → b.stat.extractLsb' 0 2 = 3 →
      lcdStep b =
        ({ b with
            stat := b.stat &&& 0xFC
            scanlineCounter := 204 * scale
            ifr := if b.stat.getLsbD 3 then b.ifr ||| 0x02 else b.ifr
            brk := b.brk || (b.stat.getLsbD 3 && decide ((b.ifr ||| 0x02) &&& b.ie ≠ 0)) },
          [.hookScanlineEnd, .hdmaHblank]))

/-- With the LCD on, Mode 0 and one cycle left: LY rises by one and the match is re-checked. If LY is now 144: mode 1,
the VBlank request, STAT requested if STAT[4] or a new enabled match, 456 << ds cycles, cyclesSinceVblank cleared,
ret_vblank pulsed. Otherwise: mode 2, STAT requested if STAT[5] or a new enabled match, 80 << ds cycles, no pulse.
brk is set exactly when a request leaves IF & IE nonzero. The spec marks as its own decision or inference: R213
(92_eei_decisions.md D16); R220 (92_eei_decisions.md D21); R222 (92_eei_decisions.md D19). Rests on
42_lcd_timing.md R216, 42_lcd_timing.md R213, 42_lcd_timing.md R220, 42_lcd_timing.md R222. -/
def Obligations.EndOfModeZeroAdvancesTheLine : Prop :=
  ∀ b : Block, b.lcdc.getLsbD 7 = true → b.scanlineCounter = 1 → b.stat.extractLsb' 0 2 = 0 →
    let ly' := b.ly + 1
    let m := decide (ly' = b.lyc)
    let newMatch := m && !b.stat.getLsbD 2 && b.stat.getLsbD 6
    let top := (b.stat &&& 0xF8) ||| (if m then 0x04 else 0x00)
    let scale := if b.ds then 2 else 1
    if ly' = 144 then
      let req : Byte := 0x01 ||| (if newMatch || b.stat.getLsbD 4 then 0x02 else 0x00)
      lcdStep b =
        ({ b with
            ly := 144
            stat := top ||| 0x01
            ifr := b.ifr ||| req
            brk := b.brk || decide ((b.ifr ||| req) &&& b.ie ≠ 0)
            scanlineCounter := 456 * scale
            cyclesSinceVblank := 0 },
          [.retVblank])
    else
      let fire := newMatch || b.stat.getLsbD 5
      lcdStep b =
        ({ b with
            ly := ly'
            stat := top ||| 0x02
            ifr := if fire then b.ifr ||| 0x02 else b.ifr
            brk := b.brk || (fire && decide ((b.ifr ||| 0x02) &&& b.ie ≠ 0))
            scanlineCounter := 80 * scale },
          [])

/-- With the LCD on, Mode 1 and one cycle left: LY up to 151 rises by one and gets 456 << ds cycles; 152 becomes 153
with 912 << ds cycles; 153 becomes 0 and Mode 2 with 80 << ds cycles, STAT requested also if STAT[5] (the Mode 2
entry of R213). Each re-checks the match; no VBlank request and no pulse. The spec marks as its own decision or
inference: R218 (92_eei_decisions.md D17); R213 (92_eei_decisions.md D16); R220 (92_eei_decisions.md D21). Rests
on 42_lcd_timing.md R217, 42_lcd_timing.md R218, 42_lcd_timing.md R219, 42_lcd_timing.md R213, 42_lcd_timing.md
R220. -/
def Obligations.VBlankLinesFollowAndWrap : Prop :=
  ∀ b : Block, b.lcdc.getLsbD 7 = true → b.scanlineCounter = 1 → b.stat.extractLsb' 0 2 = 1 → b.ly.toNat ≤ 153 →
    let wrap := decide (b.ly = 153)
    let ly' := if wrap then 0 else b.ly + 1
    let m := decide (ly' = b.lyc)
    let fire := (m && !b.stat.getLsbD 2 && b.stat.getLsbD 6) || (wrap && b.stat.getLsbD 5)
    lcdStep b =
      ({ b with
          ly := ly'
          stat := (b.stat &&& 0xF8) ||| (if m then 0x04 else 0x00) ||| (if wrap then 0x02 else 0x01)
          ifr := if fire then b.ifr ||| 0x02 else b.ifr
          brk := b.brk || (fire && decide ((b.ifr ||| 0x02) &&& b.ie ≠ 0))
          scanlineCounter :=
            (if wrap then 80 else if b.ly = 152 then 912 else 456) * (if b.ds then 2 else 1) },
        [])

/-- In every state with the invariant, with STAT[5:3] = 0 and IF[1] = 0, one cycle sets IF[1] exactly when STAT[6] = 1
and LY equals LYC after the cycle but not before it: once per match transition, never while matched. The spec
marks as its own decision or inference: R220 (92_eei_decisions.md D21); R224 (derived); R222 (92_eei_decisions.md
D19). Rests on 42_lcd_timing.md R220, 42_lcd_timing.md R224, 42_lcd_timing.md R222. -/
def Obligations.StatInterruptOnlyOnEnabledMatchTransition : Prop :=
  ∀ s : State, s.inv →
    s.blk.stat.getLsbD 3 = false → s.blk.stat.getLsbD 4 = false → s.blk.stat.getLsbD 5 = false →
    s.blk.ifr.getLsbD 1 = false →
    let t := (cycleStep s.cfg s.blk).1
    (t.ifr.getLsbD 1 = true ↔ s.blk.stat.getLsbD 6 = true ∧ t.ly = t.lyc ∧ s.blk.ly ≠ s.blk.lyc)

/-- From every state with the invariant, the LCD on, at the start of line 0 (Mode 2, 80 << ds cycles left): fewer than
65664 << ds cycles raise no ret_vblank and LY stays below 144; after 65664 << ds cycles LY is 144 in mode 1 and
IF[0] is set, with one ret_vblank; after 70680 << ds cycles the LCD is again at the start of line 0, with one
ret_vblank, 144 scanline-start and 144 HBlank pulses in all. The spec marks as its own decision or inference: R209
(derived); R223 (derived). Rests on 42_lcd_timing.md R209, 42_lcd_timing.md R216, 42_lcd_timing.md R223,
95_test_vectors.md section 1 S4. -/
def Obligations.OneFrameHasOneVBlank : Prop :=
  ∀ s : State, s.inv → s.blk.lcdOn = true → s.blk.mode = 2 → s.blk.ly = 0 →
    s.blk.scanlineCounter = 80 <<< s.blk.ds.toNat →
    let run := fun n => cycles s.cfg n s.blk
    let ds := s.blk.ds.toNat
    (∀ n < 65664 <<< ds, (run n).2.count .retVblank = 0 ∧ (run n).1.ly.toNat < 144) ∧
    ((run (65664 <<< ds)).1.ly = 144 ∧ (run (65664 <<< ds)).1.mode = 1 ∧
      (run (65664 <<< ds)).1.ifr.getLsbD 0 = true ∧ (run (65664 <<< ds)).2.count .retVblank = 1) ∧
    ((run (70680 <<< ds)).1.ly = 0 ∧ (run (70680 <<< ds)).1.mode = 2 ∧
      (run (70680 <<< ds)).1.scanlineCounter = 80 <<< ds ∧ (run (70680 <<< ds)).2.count .retVblank = 1 ∧
      (run (70680 <<< ds)).2.count .hookScanlineStart = 144 ∧ (run (70680 <<< ds)).2.count .hdmaHblank = 144)

/-- WR_IF replaces IF and WR_IE replaces IE; then brk becomes 1 if (IF & IE) != 0 and otherwise stays as it was, so
neither ever clears it. Nothing else changes. The spec marks as its own decision or inference: R251
(92_eei_decisions.md D12); R253 (92_eei_decisions.md D12). Rests on 43_interrupt_controller.md R251,
43_interrupt_controller.md R253. -/
def Obligations.IfAndIeWritesReplaceAndTestBreak : Prop :=
  ∀ (s : State) (v : Byte),
    exec (.wrIf v) s =
      .next { s with
        blk := { s.blk with ifr := v, brk := s.blk.brk || decide (v &&& s.blk.ie ≠ 0) }, out := ⟨.none, []⟩ } ∧
    exec (.wrIe v) s =
      .next { s with
        blk := { s.blk with ie := v, brk := s.blk.brk || decide (s.blk.ifr &&& v ≠ 0) }, out := ⟨.none, []⟩ }

/-- For id 0 to 4, IRQ_REQ ORs 1 << id into IF and sets brk if (IF & IE) != 0 over all 8 bits, also when the bit was
already 1; nothing else changes. Ids 5 to 7 are refused as ReservedEvent. Rests on R254. -/
def Obligations.IrqRequestSetsItsBitAndTestsBreak : Prop :=
  ∀ (s : State) (id : BitVec 3),
    (id.toNat ≤ 4 →
      exec (.irqReq id) s =
        .next { s with
          blk := { s.blk with
            ifr := s.blk.ifr ||| (1#8 <<< id.toNat)
            brk := s.blk.brk || decide ((s.blk.ifr ||| (1#8 <<< id.toNat)) &&& s.blk.ie ≠ 0) }
          out := ⟨.none, []⟩ }) ∧
    (5 ≤ id.toNat → exec (.irqReq id) s = .refused .reservedEvent)

/-- irq_select is a source exactly when its bit is set in both IF and IE and no lower bit is; it is none exactly when
none of bits 0 to 4 is set in both, whatever bits 7:5 are; irq_vector is 0x0040 + 8 * id: 0x0040, 0x0048, 0x0050,
0x0058, 0x0060. The spec marks as its own decision or inference: R255 (92_eei_decisions.md D10); R257
(92_eei_decisions.md D10, D11). Rests on 43_interrupt_controller.md R255, 43_interrupt_controller.md R257. -/
def Obligations.SelectionIsTheLowestPendingSource : Prop :=
  ∀ b : Block,
    (∀ src : IrqSource, b.irqSelect = some src ↔
      b.ifr.getLsbD src.id = true ∧ b.ie.getLsbD src.id = true ∧
        ∀ j < src.id, ¬(b.ifr.getLsbD j = true ∧ b.ie.getLsbD j = true)) ∧
    (b.irqSelect = none ↔ ∀ j < 5, ¬(b.ifr.getLsbD j = true ∧ b.ie.getLsbD j = true)) ∧
    b.irqVector = b.irqSelect.map (fun src => BitVec.ofNat 16 (0x0040 + 8 * src.id)) ∧
    [IrqSource.vblank.id, IrqSource.stat.id, IrqSource.timer.id, IrqSource.serial.id, IrqSource.joypad.id] =
      [0, 1, 2, 3, 4]

/-- With a selected source IRQ_ACK clears that one IF bit, returns the source with vector 0x0040 + 8 * id, and changes
neither IE nor brk nor anything else; with none selectable it returns none and changes nothing. BRK_CLR clears
brk, does not look at irq_pending, and leaves everything else as it was. The spec marks as its own decision or
inference: R258 (92_eei_decisions.md D13); R259 (92_eei_decisions.md D14). Rests on 43_interrupt_controller.md
R258, 43_interrupt_controller.md R259. -/
def Obligations.IrqAckAndBreakClearChangeOnlyTheirBit : Prop :=
  ∀ s : State,
    (∀ src, s.blk.irqSelect = some src → ∃ f : Byte,
      exec .irqAck s =
        .next { s with
          blk := { s.blk with ifr := f }
          out := ⟨.ack (some (src, BitVec.ofNat 16 (0x0040 + 8 * src.id))), []⟩ } ∧
      ∀ j < 8, f.getLsbD j = (s.blk.ifr.getLsbD j && decide (j ≠ src.id))) ∧
    (s.blk.irqSelect = none → exec .irqAck s = .next { s with out := ⟨.ack none, []⟩ }) ∧
    exec .brkClr s = .next { s with blk := { s.blk with brk := false }, out := ⟨.none, []⟩ }

/-- Over all operations: one that answers a next state leaves IE as it was unless it is WR_IE, RESET or LOAD_STATE; no
IF bit that was 1 becomes 0 unless it is IRQ_ACK, WR_IF, RESET or LOAD_STATE (requests are sticky); and no bit
above 4 becomes 1 unless it is WR_IF, RESET or LOAD_STATE. The spec marks as its own decision or inference: R260
(derived); R261 (derived); R189 (derived); R225 (derived). Rests on 43_interrupt_controller.md R260,
43_interrupt_controller.md R261, 41_timer.md R189, 42_lcd_timing.md R225. -/
def Obligations.InterruptRegistersChangeOnlyByTheirOwnOperations : Prop :=
  ∀ (i : Instr) (s t : State), exec i s = .next t →
    (t.blk.ie = s.blk.ie ∨ (∃ v, i = .wrIe v) ∨ i = .reset ∨ ∃ b, i = .loadState b) ∧
    ((∀ j, s.blk.ifr.getLsbD j = true → t.blk.ifr.getLsbD j = true) ∨
      i = .irqAck ∨ (∃ v, i = .wrIf v) ∨ i = .reset ∨ ∃ b, i = .loadState b) ∧
    ((∀ j, 5 ≤ j → t.blk.ifr.getLsbD j = true → s.blk.ifr.getLsbD j = true) ∨
      (∃ v, i = .wrIf v) ∨ i = .reset ∨ ∃ b, i = .loadState b)

/-- Over all operations: if brk goes from 0 to 1 and the operation is not LOAD_STATE, then IF & IE is nonzero after
it; if brk goes from 1 to 0, the operation is BRK_CLR, RESET or LOAD_STATE. The spec marks as its own decision or
inference: R262 (derived). Rests on 43_interrupt_controller.md R262, 10_state.md R43. -/
def Obligations.BreakFlagRisesOnlyWithAPendingInterrupt : Prop :=
  ∀ (i : Instr) (s t : State), exec i s = .next t →
    (s.blk.brk = false → t.blk.brk = true → t.blk.irqPending = true ∨ ∃ b, i = .loadState b) ∧
    (s.blk.brk = true → t.blk.brk = false → i = .brkClr ∨ i = .reset ∨ ∃ b, i = .loadState b)

/-- With the page table current: RD_ROM0 returns BOOT_ROM[addr] if biosMapped and addr < 0x100 or 0x200 <= addr <
0x900, else ROM[0][addr]; RD_ROMX returns ROM[romBank][addr & 0x3FFF]; neither changes any state. Rests on
40_mmu_bank_page_table.md R135, 40_mmu_bank_page_table.md R138, 40_mmu_bank_page_table.md R139. -/
def Obligations.RomReadsShowOverlayAndBank : Prop :=
  ∀ (s : State) (a : Addr), s.blk.inv6 s.cfg →
    (a.toNat < 0x4000 →
      exec (.rdRom0 a) s =
        .next { s with
          out := ⟨.rdata (if s.blk.biosMapped ∧ (a.toNat < 0x100 ∨ 0x200 ≤ a.toNat ∧ a.toNat < 0x900)
            then bootAt s.cfg a.toNat else romAt s.cfg 0 a.toNat), []⟩ }) ∧
    (0x4000 ≤ a.toNat → a.toNat < 0x8000 →
      exec (.rdRomx a) s = .next { s with out := ⟨.rdata (romAt s.cfg s.blk.romBank (a.toNat % 0x4000)), []⟩ })

/-- WR_ROM of every address and value raises the one pulse mbc_write(addr, v); no register and no memory byte changes,
also while biosMapped = 1. Rests on R141. -/
def Obligations.RomWritesAreForwarded : Prop :=
  ∀ (s : State) (a : Addr) (v : Byte),
    exec (.wrRom a v) s = .next { s with out := ⟨.none, [.mbcWrite a v]⟩ }

/-- With the page table current: RD_VRAM returns vram[vramBank][addr & 0x1FFF], RD_WRAM0 wram[0], RD_WRAMX
wram[wramBank], RD_ECHO0 and RD_ECHO1 the same bytes as the work RAM below when ECHO_MODE is mirror and 0xFF when
it is open bus; no state changes. The spec marks as its own decision or inference: R140 (92_eei_decisions.md D29);
R151 (92_eei_decisions.md D24); R153 (92_eei_decisions.md D24). Rests on 40_mmu_bank_page_table.md R140,
40_mmu_bank_page_table.md R147, 40_mmu_bank_page_table.md R149, 40_mmu_bank_page_table.md R151,
40_mmu_bank_page_table.md R153. -/
def Obligations.RamReadsShowTheSelectedBank : Prop :=
  ∀ (s : State) (a : Addr), s.blk.inv6 s.cfg →
    let reads := fun (i : Instr) (v : Byte) => exec i s = .next { s with out := ⟨.rdata v, []⟩ }
    let bank := fun (n : Nat) => s.blk.byteOf .wram (n * 0x1000 + a.toNat % 0x1000)
    (inRange 0x8000 0x9FFF a = true →
      reads (.rdVram a) (s.blk.byteOf .vram (s.blk.vramBank * 0x2000 + a.toNat % 0x2000))) ∧
    (inRange 0xC000 0xCFFF a = true → reads (.rdWram0 a) (bank 0)) ∧
    (inRange 0xD000 0xDFFF a = true → reads (.rdWramx a) (bank s.blk.wramBank)) ∧
    (inRange 0xE000 0xEFFF a = true →
      reads (.rdEcho0 a) (if s.cfg.echoMode = .mirror then bank 0 else 0xFF)) ∧
    (inRange 0xF000 0xFDFF a = true →
      reads (.rdEcho1 a) (if s.cfg.echoMode = .mirror then bank s.blk.wramBank else 0xFF))

/-- With the page table current: each write stores v at the one backing byte its read shows and leaves every other
byte of every store and every register as it was; with ECHO_MODE open bus an echo write changes nothing. The spec
marks as its own decision or inference: R152 (92_eei_decisions.md D24); R154 (92_eei_decisions.md D24). Rests on
40_mmu_bank_page_table.md R142, 40_mmu_bank_page_table.md R148, 40_mmu_bank_page_table.md R150,
40_mmu_bank_page_table.md R152, 40_mmu_bank_page_table.md R154. -/
def Obligations.RamWritesStoreOneByteOfTheSelectedBank : Prop :=
  ∀ (s : State) (a : Addr) (v : Byte), s.blk.inv6 s.cfg →
    let writes := fun (i : Instr) (st : Store) (k : Nat) => ∃ t, exec i s = .next t ∧ storesOnly s st k v t
    let drops := fun (i : Instr) => exec i s = .next { s with out := ⟨.none, []⟩ }
    (inRange 0x8000 0x9FFF a = true → writes (.wrVram a v) .vram (s.blk.vramBank * 0x2000 + a.toNat % 0x2000)) ∧
    (inRange 0xC000 0xCFFF a = true → writes (.wrWram0 a v) .wram (a.toNat % 0x1000)) ∧
    (inRange 0xD000 0xDFFF a = true → writes (.wrWramx a v) .wram (s.blk.wramBank * 0x1000 + a.toNat % 0x1000)) ∧
    (s.cfg.echoMode = .mirror →
      (inRange 0xE000 0xEFFF a = true → writes (.wrEcho0 a v) .wram (a.toNat % 0x1000)) ∧
      (inRange 0xF000 0xFDFF a = true → writes (.wrEcho1 a v) .wram (s.blk.wramBank * 0x1000 + a.toNat % 0x1000))) ∧
    (s.cfg.echoMode = .openBus →
      (inRange 0xE000 0xEFFF a = true → drops (.wrEcho0 a v)) ∧
      (inRange 0xF000 0xFDFF a = true → drops (.wrEcho1 a v)))

/-- With the page table current and no claimed window: mapped (ramEnabled and NUM_RAM_BANKS > 0) RD_XRAM returns
xram[ramBank][addr & 0x1FFF] and WR_XRAM stores exactly that byte; unmapped the read returns 0xFF and the write
changes nothing. When the controller claims the window (a configuration field of the model, log 12) both are
refused as CartridgeWindow. The spec marks as its own decision or inference: R146 (92_eei_decisions.md D25). Rests
on 40_mmu_bank_page_table.md R143, 40_mmu_bank_page_table.md R144, 40_mmu_bank_page_table.md R145,
40_mmu_bank_page_table.md R146, notes/assumptions/12.md. -/
def Obligations.ExternalRamAnswersOnlyWhenMapped : Prop :=
  ∀ (s : State) (a : Addr) (v : Byte), s.blk.inv6 s.cfg → inRange 0xA000 0xBFFF a = true →
    let k := s.blk.ramBank * 0x2000 + a.toNat % 0x2000
    (s.cfg.cartridgeWindow = false → s.blk.ramEnabled = true → 0 < s.cfg.numRamBanks →
      exec (.rdXram a) s = .next { s with out := ⟨.rdata (s.blk.byteOf .xram k), []⟩ } ∧
      ∃ t, exec (.wrXram a v) s = .next t ∧ storesOnly s .xram k v t) ∧
    (s.cfg.cartridgeWindow = false → (s.blk.ramEnabled = false ∨ s.cfg.numRamBanks = 0) →
      exec (.rdXram a) s = .next { s with out := ⟨.rdata 0xFF, []⟩ } ∧
      exec (.wrXram a v) s = .next { s with out := ⟨.none, []⟩ }) ∧
    (s.cfg.cartridgeWindow = true →
      exec (.rdXram a) s = .refused .cartridgeWindow ∧ exec (.wrXram a v) s = .refused .cartridgeWindow)

/-- RD_OAM and WR_OAM reach oam[addr & 0xFF], RD_HRAM and WR_HRAM reach hram[addr & 0x7F]; a read changes nothing, a
write changes that one byte and nothing else, in every mode of the LCD. RD_UNUSED returns 0xFF whatever was
written before, and WR_UNUSED changes nothing. The spec marks as its own decision or inference: R155
(92_eei_decisions.md D29). Rests on 40_mmu_bank_page_table.md R155, 40_mmu_bank_page_table.md R156,
40_mmu_bank_page_table.md R164, 40_mmu_bank_page_table.md R165, 40_mmu_bank_page_table.md R166,
40_mmu_bank_page_table.md R167. -/
def Obligations.OamUnusedAndHighRamAccesses : Prop :=
  ∀ (s : State) (a : Addr) (v : Byte),
    let reads := fun (i : Instr) (x : Byte) => exec i s = .next { s with out := ⟨.rdata x, []⟩ }
    let writes := fun (i : Instr) (st : Store) (k : Nat) => ∃ t, exec i s = .next t ∧ storesOnly s st k v t
    (inRange 0xFE00 0xFE9F a = true →
      reads (.rdOam a) (s.blk.byteOf .oam (a.toNat % 0x100)) ∧ writes (.wrOam a v) .oam (a.toNat % 0x100)) ∧
    (inRange 0xFEA0 0xFEFF a = true →
      reads (.rdUnused a) 0xFF ∧ exec (.wrUnused a v) s = .next { s with out := ⟨.none, []⟩ }) ∧
    (inRange 0xFF80 0xFFFE a = true →
      reads (.rdHram a) (s.blk.byteOf .hram (a.toNat % 0x80)) ∧ writes (.wrHram a v) .hram (a.toNat % 0x80))

/-- For a well-formed address: not delegated, RD_IO of 0xFF4F, 0xFF50, 0xFF70 returns the stored byte of VBK, BOOTOFF,
SVBK and any other address its io byte, and WR_IO stores exactly that io byte; delegated, RD_IO answers some byte
(a free value of the model, log 6) changing only the count of free values, and WR_IO pulses ext_io_write and
changes no state. The spec marks as its own decision or inference: R163 (92_eei_decisions.md D30). Rests on
40_mmu_bank_page_table.md R163, 40_mmu_bank_page_table.md R168, 40_mmu_bank_page_table.md R169,
notes/assumptions/6.md. -/
def Obligations.GenericIoIsStorageOrDelegated : Prop :=
  ∀ (s : State) (a : Addr) (v : Byte),
    ((Instr.rdIo a).wellFormed = true →
      (a ∉ s.cfg.delegatedIo →
        exec (.rdIo a) s =
          .next { s with
            out := ⟨.rdata (if a = 0xFF4F then s.blk.vbk else if a = 0xFF50 then s.blk.bootoff
              else if a = 0xFF70 then s.blk.svbk else s.blk.byteOf .io (a.toNat - 0xFF00)), []⟩ }) ∧
      (a ∈ s.cfg.delegatedIo → ∃ x : Byte,
        exec (.rdIo a) s = .next { s with out := ⟨.rdata x, []⟩, draws := s.draws + 1 })) ∧
    ((Instr.wrIo a v).wellFormed = true →
      (a ∉ s.cfg.delegatedIo →
        ∃ t, exec (.wrIo a v) s = .next t ∧ storesOnly s .io (a.toNat - 0xFF00) v t) ∧
      (a ∈ s.cfg.delegatedIo →
        exec (.wrIo a v) s = .next { s with out := ⟨.none, [.extIoWrite a v]⟩ }))

/-- WR_VBK stores the byte and, on CGB, selects vramBank = v[0]; WR_SVBK stores the byte and, on CGB, selects wramBank
= v[2:0] with 0 selecting 1; WR_BOOTOFF stores the byte and clears biosMapped for every value, leaving romBank,
and marks BOOTOFF as written since RESET (INV8); for an index in range MBC_ROMBANK sets romBank (0 is accepted)
and MBC_RAMBANK ramBank; MBC_RAMEN sets ramEnabled. Each refreshes the page table and changes nothing else. The
spec marks as its own decision or inference: R157 (92_eei_decisions.md D9); R158 (general knowledge); R160
(92_eei_decisions.md D26); R161 (92_eei_decisions.md D26); R54 (derived). Rests on 40_mmu_bank_page_table.md R131,
40_mmu_bank_page_table.md R157, 40_mmu_bank_page_table.md R158, 40_mmu_bank_page_table.md R159,
40_mmu_bank_page_table.md R160, 40_mmu_bank_page_table.md R161, 40_mmu_bank_page_table.md R162, 10_state.md R54. -/
def Obligations.BankOperationsSelectAndRemap : Prop :=
  ∀ s : State,
    let gives := fun (i : Instr) (b : Block) => ∃ table : Vector PageEntry 16,
      exec i s = .next { s with blk := { b with pageTable := table }, out := ⟨.none, []⟩ } ∧
        ({ b with pageTable := table } : Block).inv6 s.cfg
    (∀ v : Byte, gives (.wrVbk v) { s.blk with
      vbk := v, vramBank := if s.cfg.cgb then v.toNat % 2 else s.blk.vramBank }) ∧
    (∀ v : Byte, gives (.wrSvbk v) { s.blk with
      svbk := v
      wramBank := if s.cfg.cgb then (if v.toNat % 8 = 0 then 1 else v.toNat % 8) else s.blk.wramBank }) ∧
    (∀ v : Byte, ∃ table : Vector PageEntry 16,
      exec (.wrBootoff v) s =
        .next { s with
          blk := { s.blk with bootoff := v, biosMapped := false, pageTable := table }
          bootoffWritten := true, out := ⟨.none, []⟩ } ∧
        ({ s.blk with bootoff := v, biosMapped := false, pageTable := table } : Block).inv6 s.cfg) ∧
    (∀ n < s.cfg.numRomBanks, gives (.mbcRombank n) { s.blk with romBank := n }) ∧
    (∀ n < max s.cfg.numRamBanks 1, gives (.mbcRambank n) { s.blk with ramBank := n }) ∧
    ∀ e : Bool, gives (.mbcRamen e) { s.blk with ramEnabled := e }

/-- Every operation that can change an input of mapBanks (WR_SVBK, WR_VBK, WR_BOOTOFF, MBC_ROMBANK, MBC_RAMBANK,
MBC_RAMEN, RESET, LOAD_STATE) ends with the page table equal to mapBanks of the bank state, whatever it was
before; no other operation changes the table, and a current table stays current over every operation. Rests on
R132. -/
def Obligations.PageTableIsRefreshedByExactlyTheBankOperations : Prop :=
  ∀ (i : Instr) (s t : State), exec i s = .next t →
    let banks := (∃ v, i = .wrSvbk v) ∨ (∃ v, i = .wrVbk v) ∨ (∃ v, i = .wrBootoff v) ∨ (∃ n, i = .mbcRombank n) ∨
      (∃ n, i = .mbcRambank n) ∨ (∃ b, i = .mbcRamen b) ∨ i = .reset ∨ ∃ b, i = .loadState b
    (banks → t.blk.inv6 t.cfg) ∧ (¬ banks → t.blk.pageTable = s.blk.pageTable) ∧
    (s.blk.inv6 s.cfg → t.blk.inv6 t.cfg)

/-- Over all operations but RESET: biosMapped never goes from 0 to 1 (for LOAD_STATE: in a state with the invariant,
log 13), and a BOOTOFF write is never forgotten. Over all operations but RESET and LOAD_STATE: romBank changes
only by MBC_ROMBANK, ramBank by MBC_RAMBANK, ramEnabled by MBC_RAMEN, wramBank by WR_SVBK, vramBank by WR_VBK, ds
by SPEED_SWITCH, and biosMapped goes to 0, and BOOTOFF becomes written, only by WR_BOOTOFF. The spec marks as its
own decision or inference: R46 (92_eei_decisions.md D31); R48 (92_eei_decisions.md D31); R350 (92_eei_decisions.md
D31, D40). Rests on 10_state.md R44, 10_state.md R45, 10_state.md R46, 10_state.md R47, 10_state.md R48,
10_state.md R49, 10_state.md R50, 70_reset_and_hazards.md R350, notes/assumptions/13.md. -/
def Obligations.BankStateChangesOnlyByItsOwnOperation : Prop :=
  ∀ (i : Instr) (s t : State), exec i s = .next t → i ≠ .reset →
    ((s.inv ∨ ∀ b, i ≠ .loadState b) → t.blk.biosMapped = true → s.blk.biosMapped = true) ∧
    (s.bootoffWritten = true → t.bootoffWritten = true) ∧
    ((∀ b, i ≠ .loadState b) →
      (t.blk.romBank = s.blk.romBank ∨ ∃ n, i = .mbcRombank n) ∧
      (t.blk.ramBank = s.blk.ramBank ∨ ∃ n, i = .mbcRambank n) ∧
      (t.blk.ramEnabled = s.blk.ramEnabled ∨ ∃ b, i = .mbcRamen b) ∧
      (t.blk.wramBank = s.blk.wramBank ∨ ∃ v, i = .wrSvbk v) ∧
      (t.blk.vramBank = s.blk.vramBank ∨ ∃ v, i = .wrVbk v) ∧
      (t.blk.ds = s.blk.ds ∨ i = .speedSwitch) ∧
      ((t.blk.biosMapped = s.blk.biosMapped ∧ t.bootoffWritten = s.bootoffWritten) ∨ ∃ v, i = .wrBootoff v))

/-- In every state with the invariant and for every address that reaches a writable backing byte (video RAM, mapped
external RAM, work RAM, mirrored echo, OAM, high RAM, plain I/O storage): MemWrite of any byte, then MemRead of
the same address, returns that byte and the read changes nothing. Rests on 20_memory.md R83,
40_mmu_bank_page_table.md R133, 40_mmu_bank_page_table.md R136, 40_mmu_bank_page_table.md R137. -/
def Obligations.BusReadReturnsTheLastByteWritten : Prop :=
  ∀ (s : State) (a : Addr) (v : Byte), s.inv → isPlainStorage s a = true → ∃ t,
    memWrite a v s = .next t ∧ memRead a t = .next { t with out := ⟨.rdata v, []⟩ }

/-- With the page table current, the unmapped locations (0xFEA0-0xFEFF always; 0xA000-0xBFFF when external RAM is not
mapped; 0xE000-0xFDFF when ECHO_MODE is open bus) read exactly 0xFF, and a write of any byte changes no state;
neither is an error. Rests on R80. -/
def Obligations.UnmappedAddressesAreOpenBus : Prop :=
  ∀ (s : State) (a : Addr) (v : Byte), s.blk.inv6 s.cfg → isUnmapped s a = true →
    memRead a s = .next { s with out := ⟨.rdata 0xFF, []⟩ } ∧ memWrite a v s = .next { s with out := ⟨.none, []⟩ }

/-- In every state with the invariant, a bus read that answers changes no field of the aggregate and no configuration,
and, if it took no free value (it was not a delegated read), repeating it returns the same byte. The spec marks as
its own decision or inference: R79 (derived); R186 (derived). Rests on 20_memory.md R79, 41_timer.md R186. -/
def Obligations.ReadsHaveNoLaterEffect : Prop :=
  ∀ (i : Instr) (s t : State), s.inv → isBusRead i = true → exec i s = .next t →
    t.blk = s.blk ∧ t.cfg = s.cfg ∧ (t.draws = s.draws → exec i t = .next t)

/-- TICK n answers the aggregate after n single-cycle steps (cycles) with their pulses in order and changes nothing
outside it; no cycles change nothing; n + 1 cycles are one step (count, timer_sync, lcd_step) and then n cycles,
the step's pulses before theirs; cycle rises by exactly n. The spec marks as its own decision or inference: R280
(92_eei_decisions.md D1, D45); R281 (92_eei_decisions.md D39). Rests on 44_clock_scheduler.md R280,
44_clock_scheduler.md R281. -/
def Obligations.TickRunsSingleCycleSteps : Prop :=
  ∀ (s : State) (n : Nat),
    exec (.tick n) s =
      .next { s with blk := (cycles s.cfg n s.blk).1, out := ⟨.none, (cycles s.cfg n s.blk).2⟩ } ∧
    cycles s.cfg 0 s.blk = (s.blk, []) ∧
    (let one := lcdStep (timerSync s.cfg
        { s.blk with cycle := s.blk.cycle + 1, cyclesSinceVblank := s.blk.cyclesSinceVblank + 1 })
     cycles s.cfg (n + 1) s.blk = ((cycles s.cfg n one.1).1, one.2 ++ (cycles s.cfg n one.1).2)) ∧
    (cycles s.cfg n s.blk).1.cycle = s.blk.cycle + n

/-- For all a and b and every state: TICK a followed by TICK b ends in the same state as TICK (a + b), whose pulses
are those of the first followed by those of the second. The spec marks as its own decision or inference: R282
(derived). Rests on 44_clock_scheduler.md R282. -/
def Obligations.TickSplits : Prop :=
  ∀ (s : State) (a b : Nat), ∃ t u : State,
    exec (.tick a) s = .next t ∧ exec (.tick b) t = .next u ∧
      exec (.tick (a + b)) s = .next { u with out := ⟨.none, t.out.pulses ++ u.out.pulses⟩ }

/-- Over all operations: one that answers a next state leaves the configuration and the waiting words as they were;
cycle rises by n if it is TICK n, becomes 0 by RESET and the snapshot's by LOAD_STATE, and is unchanged by every
other operation. The spec marks as its own decision or inference: R280 (92_eei_decisions.md D1, D45); R37
(92_eei_decisions.md D2). Rests on 44_clock_scheduler.md R280, 10_state.md R37, 10_state.md R20. -/
def Obligations.OnlyTickMovesTime : Prop :=
  ∀ (i : Instr) (s t : State), exec i s = .next t →
    t.cfg = s.cfg ∧ t.port = s.port ∧
    (∀ n, i = .tick n → t.blk.cycle = s.blk.cycle + n) ∧
    (i = .reset → t.blk.cycle = 0) ∧
    (∀ b, i = .loadState b → t.blk.cycle = b.cycle) ∧
    ((∀ n, i ≠ .tick n) → i ≠ .reset → (∀ b, i ≠ .loadState b) → t.blk.cycle = s.blk.cycle)

/-- In every state with the invariant, for n below lcdCounter and below timerCounter (if there is one): n cycles raise
no pulse, leave IF, brk, STAT, LY and TMR's TAC and TMA as they were, and lower lcdCounter, and timerCounter if
there is one, by n. The spec marks as its own decision or inference: R286 (derived). Rests on
44_clock_scheduler.md R286. -/
def Obligations.NothingHappensBeforeTheNextEvent : Prop :=
  ∀ (s : State) (n : Nat), s.inv → n < s.blk.lcdCounter → (∀ m, s.blk.timerCounter s.cfg = some m → n < m) →
    let r := cycles s.cfg n s.blk
    r.2 = [] ∧ r.1.ifr = s.blk.ifr ∧ r.1.brk = s.blk.brk ∧ r.1.stat = s.blk.stat ∧ r.1.ly = s.blk.ly ∧
      r.1.tac = s.blk.tac ∧ r.1.tma = s.blk.tma ∧ r.1.lcdCounter = s.blk.lcdCounter - n ∧
      r.1.timerCounter s.cfg = (s.blk.timerCounter s.cfg).map (· - n)

/-- In every state with the invariant and for every n up to the smaller of lcdCounter and timerCounter: one timer
update over the whole chunk followed by one lowering of the LCD counter, with at most one transition, gives the
same aggregate and pulses as n single-cycle steps. The spec marks as its own decision or inference: R283
(derived); R186 (derived). Rests on 44_clock_scheduler.md R283, 41_timer.md R186. -/
def Obligations.ChunkedUpdateEqualsSingleCycles : Prop :=
  ∀ (s : State) (n : Nat), s.inv → n ≤ minNone s.blk.lcdCounter (s.blk.timerCounter s.cfg) →
    chunk s.cfg n s.blk = cycles s.cfg n s.blk

/-- In every state with the invariant, for every n and every bound on the number of chunks, the event-driven run gives
the same aggregate and the same pulses in the same order as n single-cycle steps. The spec marks as its own
decision or inference: R282 (derived); R283 (derived). Rests on 44_clock_scheduler.md R282, 44_clock_scheduler.md
R283. -/
def Obligations.EventDrivenRunEqualsSingleCycles : Prop :=
  ∀ (s : State) (fuel n : Nat), s.inv → eventCycles s.cfg fuel n s.blk = cycles s.cfg n s.blk

/-- For every value of the two external inputs: cyclesToEvent is at most each countdown that is not none and equals
one of them; with the invariant it is at least 1 unless an external input is 0; cycleBudget is 0 if brk = 1 and
cyclesToEvent otherwise. The spec marks as its own decision or inference: R286 (derived); R287
(92_eei_decisions.md D14). Rests on 44_clock_scheduler.md R286, 44_clock_scheduler.md R287, 44_clock_scheduler.md
R288. -/
def Obligations.SchedulerOutputIsTheSmallestCountdown : Prop :=
  ∀ (s : State) (serial sound : Option Nat),
    let cte := cyclesToEvent s.cfg serial sound s.blk
    let downs := some s.blk.lcdCounter :: [s.blk.timerCounter s.cfg, serial, sound]
    (∀ m, some m ∈ downs → cte ≤ m) ∧ some cte ∈ downs ∧
    (s.inv → serial ≠ some 0 → sound ≠ some 0 → 1 ≤ cte) ∧
    cycleBudget s.cfg serial sound s.blk = if s.blk.brk then 0 else cte

/-- On CGB SPEED_SWITCH runs timer_sync under the old speed, toggles ds and sets lastTimerCycle to cycle;
scanlineCounter, offCounter, the divider latch and everything else stay. On a classic machine it is refused as
ReservedEvent. The spec marks as its own decision or inference: R284 (92_eei_decisions.md D22). Rests on
44_clock_scheduler.md R284, 30_encoding.md R113. -/
def Obligations.SpeedSwitchTogglesAndRelatches : Prop :=
  ∀ s : State,
    (s.cfg.cgb = true →
      exec .speedSwitch s =
        .next { s with
          blk := { timerSync s.cfg s.blk with ds := !s.blk.ds, lastTimerCycle := s.blk.cycle }, out := ⟨.none, []⟩ } ∧
      (timerSync s.cfg s.blk).scanlineCounter = s.blk.scanlineCounter ∧
      (timerSync s.cfg s.blk).offCounter = s.blk.offCounter ∧
      (timerSync s.cfg s.blk).lastDividerCycle = s.blk.lastDividerCycle ∧
      (timerSync s.cfg s.blk).cycle = s.blk.cycle) ∧
    (s.cfg.cgb = false → exec .speedSwitch s = .refused .reservedEvent)

/-- From every state RESET answers the state with every register at its value of R58 and the page table current; it
keeps the configuration and the port, and BOOTOFF counts as not written since RESET (INV8). The memory bytes are
free values: nothing is listed in any store (the numbering of the draws is the model's, log 4). The spec marks as
its own decision or inference: R58 (92_eei_decisions.md D31); R350 (92_eei_decisions.md D31, D40); R54 (derived).
Rests on 10_state.md R58, 70_reset_and_hazards.md R350, 10_state.md R54, notes/assumptions/4.md. -/
def Obligations.ResetEstablishesTheResetTable : Prop :=
  ∀ s : State, ∃ t : State, exec .reset s = .next t ∧
    t.cfg = s.cfg ∧ t.port = s.port ∧ t.out = ⟨.none, []⟩ ∧ t.blk.inv6 t.cfg ∧
    (t.blk.cycle = 0 ∧ t.blk.lastTimerCycle = 0 ∧ t.blk.lastDividerCycle = 0 ∧ t.blk.cyclesSinceVblank = 0) ∧
    (t.blk.tima = 0x00 ∧ t.blk.tma = 0x00 ∧ t.blk.tac = 0x00 ∧ t.blk.ifr = 0x00 ∧ t.blk.ie = 0x00) ∧
    (t.blk.lcdc = 0x00 ∧ t.blk.stat = 0x04 ∧ t.blk.ly = 0x00 ∧ t.blk.lyc = 0x00) ∧
    (t.blk.vbk = 0x00 ∧ t.blk.bootoff = 0x00 ∧ t.blk.svbk = 0x00 ∧ t.blk.brk = false ∧ t.blk.ds = false) ∧
    (t.blk.scanlineCounter = 80 ∧ t.blk.offCounter = 70680 ∧ t.blk.biosMapped = s.cfg.bootRomPresent) ∧
    t.bootoffWritten = false ∧
    (t.blk.romBank = 1 ∧ t.blk.ramBank = 0 ∧ t.blk.ramEnabled = false ∧ t.blk.wramBank = 1 ∧ t.blk.vramBank = 0) ∧
    ∀ st, t.blk.storeOf st = []

/-- For an aggregate with every invariant of R54 LOAD_STATE answers that aggregate with lastTimerCycle = cycle and the
divider latch such that the divider count is 256 times the snapshot's DIV byte; every other field is the
snapshot's. Any other aggregate is refused as BadSnapshot. The model's reading: BOOTOFF counts as written since
RESET (INV8) if it was in this session or if the snapshot shows that it was in its own (BOOTOFF not 0, or the boot
ROM present and unmapped), log 13; the range of ramBank and the form of the memories are checked too, log 14, and
nothing beyond that, log 18. The spec marks as its own decision or inference: R353 (92_eei_decisions.md D46); R54
(derived). Rests on 70_reset_and_hazards.md R353, 10_state.md R54, 10_state.md R45, notes/assumptions/13.md,
notes/assumptions/14.md, notes/assumptions/18.md, notes/assumptions/4.md. -/
def Obligations.LoadStateResynchronisesALegalSnapshot : Prop :=
  ∀ (s : State) (b : Block),
    let written := s.bootoffWritten || decide (b.bootoff ≠ 0) || (s.cfg.bootRomPresent && !b.biosMapped)
    (b.legal s.cfg written = true → ∃ (l n : Nat),
      exec (.loadState b) s =
        .next { s with
          blk := { b with lastTimerCycle := b.cycle, lastDividerCycle := l }
          bootoffWritten := written, out := ⟨.none, []⟩, draws := n } ∧
      l ≤ b.cycle ∧ b.cycle - l = 256 * (((b.cycle - b.lastDividerCycle) / 256) % 256)) ∧
    (b.legal s.cfg written = false → exec (.loadState b) s = .refused .badSnapshot) ∧
    (b.biosMapped = true → s.bootoffWritten = true → exec (.loadState b) s = .refused .badSnapshot)

/-- In every state with the invariant, LOAD_STATE of the state's own aggregate answers a state whose aggregate differs
from the old one at most in lastTimerCycle and lastDividerCycle, every store reads the same, whether BOOTOFF was
written since RESET is as before, and RD_DIV and RD_TIMA return what they returned before. The spec marks as its
own decision or inference: R353 (92_eei_decisions.md D46). Rests on 70_reset_and_hazards.md R353,
95_test_vectors.md section 1 S5, notes/assumptions/13.md. -/
def Obligations.SaveThenLoadKeepsEverythingButTwoPhases : Prop :=
  ∀ s : State, s.inv → ∃ t : State, exec (.loadState s.blk) s = .next t ∧
    t.blk = { s.blk with lastTimerCycle := t.blk.lastTimerCycle, lastDividerCycle := t.blk.lastDividerCycle } ∧
    t.bootoffWritten = s.bootoffWritten ∧ (∀ st k, t.blk.byteOf st k = s.blk.byteOf st k) ∧
    (∃ v, exec .rdDiv s = .next { s with out := ⟨.rdata v, []⟩ } ∧
      exec .rdDiv t = .next { t with out := ⟨.rdata v, []⟩ }) ∧
    exec .rdTima t = .next { t with out := ⟨.rdata (timerSync s.cfg s.blk).tima, []⟩ }

/-- State.reset has the invariant (legal configuration, every invariant of R54, synchronised timer; log 13 and log 14
are the model's reading of INV8 and of the memories' form), and RESET establishes it from every state whose
configuration is legal. The spec marks as its own decision or inference: R54 (derived); R58 (92_eei_decisions.md
D31). Rests on 10_state.md R54, 10_state.md R58, notes/assumptions/13.md, notes/assumptions/14.md. -/
def Obligations.ResetStateMeetsTheInvariant : Prop :=
  State.reset.inv ∧ ∀ s t : State, cfgWf s.cfg → exec .reset s = .next t → t.inv

/-- From every state with the invariant, whatever words are presented, a step that answers a next state gives a state
with the invariant: INV1 and INV3 to INV9 of R54 (INV2 and R38 as the synchronised timer), a legal configuration,
and, the model's reading, what a loaded snapshot shows of BOOTOFF writes counted into the session of INV8 (log 13)
and every store in canonical form within its size, ramBank in range (log 14). The spec marks as its own decision
or inference: R54 (derived). Rests on 10_state.md R54, 10_state.md R38, 20_memory.md R87, notes/assumptions/13.md,
notes/assumptions/14.md. -/
def Obligations.StepKeepsTheInvariant : Prop :=
  ∀ s t : State, s.inv → step s = .next t → t.inv

/-- With IME = 1, a selected source and sp such that sp - 1 and sp - 2 lie in high RAM, the dispatch answers: IME and
halted cleared, sp lowered by 2, pc at 0x0040 + 8 * id, IRQ_DISPATCH_CYCLES owed; the block has the selected IF
bit cleared, pc[15:8] at sp - 1 and pc[7:0] at sp - 2, and every other register and byte as before. With IME = 0
or nothing selectable nothing changes. (The contract is the spec's CPU side, modelled as functions, log 16.) The
spec marks as its own decision or inference: R318 (92_eei_decisions.md D33); R258 (92_eei_decisions.md D13); R76
(92_eei_decisions.md D32). Rests on 60_exceptions.md R318, 43_interrupt_controller.md R258, 20_memory.md R76,
notes/assumptions/16.md. -/
def Obligations.DispatchPushesThePcAndVectors : Prop :=
  ∀ (c : CpuSide) (s : State),
    (∀ src, c.ime = true → s.blk.irqSelect = some src →
      inRange 0xFF80 0xFFFE (c.sp - 1) = true → inRange 0xFF80 0xFFFE (c.sp - 2) = true → ∃ t : State,
      dispatch c s =
        .next ({ ime := false, halted := false, sp := c.sp - 2, pc := BitVec.ofNat 16 (0x0040 + 8 * src.id)
                 owed := c.owed + s.cfg.irqDispatchCycles }, t) ∧
      t = { s with
        blk := { s.blk with ifr := t.blk.ifr, hram := t.blk.hram }, out := ⟨.none, []⟩ } ∧
      (∀ j < 8, t.blk.ifr.getLsbD j = (s.blk.ifr.getLsbD j && decide (j ≠ src.id))) ∧
      ∀ k, t.blk.byteOf .hram k =
        if k = (c.sp - 2).toNat % 0x80 then c.pc.extractLsb' 0 8
        else if k = (c.sp - 1).toNat % 0x80 then c.pc.extractLsb' 8 8
        else s.blk.byteOf .hram k) ∧
    ((c.ime = false ∨ s.blk.irqSelect = none) → dispatch c s = .next (c, s))

/-- With the invariant, IME = 1, a selected source, and sp - 1 and sp - 2 each in work RAM (0xC000-0xDFFF) or high
RAM: dispatch followed by the return answers a CPU side with the old pc and sp and IME = 1. The spec marks as its
own decision or inference: R318 (92_eei_decisions.md D33); R322 (92_eei_decisions.md D43). Rests on
60_exceptions.md R318, 60_exceptions.md R322, notes/assumptions/16.md. -/
def Obligations.ReturnUndoesDispatch : Prop :=
  ∀ (c : CpuSide) (s : State), s.inv → c.ime = true → s.blk.irqSelect ≠ none →
    (inRange 0xC000 0xDFFF (c.sp - 1) || inRange 0xFF80 0xFFFE (c.sp - 1)) = true →
    (inRange 0xC000 0xDFFF (c.sp - 2) || inRange 0xFF80 0xFFFE (c.sp - 2)) = true →
    ∃ (c1 c2 : CpuSide) (t u : State),
      dispatch c s = .next (c1, t) ∧ returnFromHandler c1 t = .next (c2, u) ∧
        c2.pc = c.pc ∧ c2.sp = c.sp ∧ c2.ime = true ∧ u.blk = t.blk

/-- A halted CPU's iteration: no opcode is executed; after the other units' operations the block runs TICK of the
whole cycle budget (4 cycles for a budget of 0, none if an interrupt is pending already) plus the cycles owed,
then BRK_CLR; the CPU leaves halt exactly if irq_pending then, whatever IME is, and goes on to the dispatch of
R318, which with IME = 0 does nothing; DMA cycles are owed. With nothing pending time always advances, also when
brk is set or an external countdown is 0. (Model functions, log 16; that every other unit's operations come before
the TICK and none between it and the dispatch is the model's choice, log 19.) The spec marks as its own decision
or inference: R320 (92_eei_decisions.md D35); R287 (92_eei_decisions.md D14); R290 (92_eei_decisions.md D1). Rests
on 60_exceptions.md R320, 44_clock_scheduler.md R287, 44_clock_scheduler.md R290, notes/assumptions/16.md,
notes/assumptions/19.md. -/
def Obligations.HaltTicksTheBudgetUntilPending : Prop :=
  ∀ (i : Inputs) (l : Loop) (e : State × List Pulse), l.cpu.halted = true → performAll i.other.ops l.st = .next e →
    let budget := cycleBudget l.st.cfg i.serial i.sound l.st.blk
    let used := if l.st.blk.irqPending then 0 else if budget = 0 then 4 else budget
    ∃ t u : State,
      exec (.tick (used + l.cpu.owed)) e.1 = .next t ∧ exec .brkClr t = .next u ∧
      (let c : CpuSide := { l.cpu with halted := !u.blk.irqPending, owed := 0 }
       let reasons : Reasons := ⟨(e.2 ++ t.out.pulses).contains .retVblank, i.other.link⟩
       iteration i l =
         andThen (dispatch c u) (fun r =>
           .next (⟨{ r.1 with owed := r.1.owed + i.other.dma }, r.2, l.program⟩, reasons)) ∧
       (l.cpu.ime = false → iteration i l = .next (⟨{ c with owed := i.other.dma }, u, l.program⟩, reasons))) ∧
      (l.st.blk.irqPending = false → e.1.blk.cycle < t.blk.cycle)

/-- A chunk executes an initial part `ran` of the opcodes supplied: the block is what all their operations in order
leave, with all their pulses, the CPU side is the last one's, cycles used and cycles ticked are their sums. Before
every opcode of it the budget is not used, the CPU not halted and brk clear; after it the supply has ended, the
budget is used, the CPU is halted or brk is set. So a budget of 0, brk or halt executes none. The chunk answers
whenever the operations of all opcodes supplied do. With a budget of QUIRK_STEP_CYCLES = 4, brk = 0 and halted =
0, exactly one opcode runs, of at least 4 cycles. (Model functions; that brk and halt end a chunk and that an
opcode takes at least 4 cycles are log 16.) The spec marks as its own decision or inference: R290
(92_eei_decisions.md D1); R287 (92_eei_decisions.md D14); R320 (92_eei_decisions.md D35); R321
(92_eei_decisions.md D34). Rests on 44_clock_scheduler.md R290, 44_clock_scheduler.md R287, 60_exceptions.md R320,
60_exceptions.md R321, notes/assumptions/16.md. -/
def Obligations.OpcodeChunksKeepTheirBudget : Prop :=
  ∀ (budget : Nat) (program : List Opcode) (c : CpuSide) (s : State),
    let start : Chunk := ⟨c, s, 0, 0, [], program⟩
    let cpuAfter := fun ran : List Opcode => ran.foldl (fun c op => op.after c) c
    let used := fun ran : List Opcode => (ran.map Opcode.cycles).sum
    (∀ k, runOpcodes budget program start = .next k → ∃ ran : List Opcode,
      program = ran ++ k.program ∧
      performAll (ran.flatMap Opcode.ops) s = .next (k.st, k.pulses) ∧
      k.cpu = cpuAfter ran ∧ k.used = used ran ∧ k.ticked = (ran.map fun op => ticksIn op.ops).sum ∧
      (∀ before last after, ran = before ++ last :: after →
        used before < budget ∧ (cpuAfter before).halted = false ∧
          ∃ r, performAll (before.flatMap Opcode.ops) s = .next r ∧ r.1.blk.brk = false) ∧
      (k.program = [] ∨ budget ≤ k.used ∨ k.cpu.halted = true ∨ k.st.blk.brk = true)) ∧
    ((∃ r, performAll (program.flatMap Opcode.ops) s = .next r) → ∃ k, runOpcodes budget program start = .next k) ∧
    ∀ op rest r, program = op :: rest → c.halted = false → s.blk.brk = false → performAll op.ops s = .next r →
      runOpcodes 4 program start =
        .next ⟨{ c with ime := op.ime, halted := op.halted, sp := op.sp, pc := op.pc }, r.1, op.cycles,
          ticksIn op.ops, r.2, rest⟩ ∧ 4 ≤ op.cycles
end

