-- ==== Sys2Proof/Laws/Contract.lean ====
section
/-! SUPPORT. What the contract functions can do, said once each: sequencing, performing operations in order, when a
chunk of opcodes goes on and when it ends, when a dispatch does nothing. -/

namespace Sys2Proof.Machine

/-! ### Sequencing -/

@[simp] theorem andThen_of_next {α β : Type} (a : α) (f : α → Host.Outcome β Fault Refusal) :
    andThen (.next a) f = f a := rfl

/-- A sequence answers a next state exactly when each part does. -/
theorem andThen_eq_next {α β : Type} {o : Host.Outcome α Fault Refusal} {f : α → Host.Outcome β Fault Refusal} {b : β} :
    andThen o f = .next b ↔ ∃ a, o = .next a ∧ f a = .next b := by
  cases o <;> simp [andThen]

/-! ### Operations in order -/

@[simp] theorem performAll_nil (s : State) : performAll [] s = .next (s, []) := rfl

/-- One operation and then the rest, with the pulses of both. -/
theorem performAll_cons_eq_next {i : Instr} {rest : List Instr} {s : State} {r : State × List Pulse} :
    performAll (i :: rest) s = .next r ↔
      ∃ t u, exec i s = .next t ∧ performAll rest t = .next u ∧ r = (u.1, t.out.pulses ++ u.2) := by
  simp only [performAll, andThen_eq_next, Host.Outcome.next.injEq]
  exact ⟨fun ⟨t, ht, u, hu, h⟩ => ⟨t, u, ht, hu, h.symm⟩, fun ⟨t, u, ht, hu, h⟩ => ⟨t, ht, u, hu, h.symm⟩⟩

/-- Operations in two parts: the first part, then the second from where it ends, with the pulses of both. -/
theorem performAll_append_eq_next {a b : List Instr} {s : State} {r : State × List Pulse} :
    performAll (a ++ b) s = .next r ↔
      ∃ t u, performAll a s = .next t ∧ performAll b t.1 = .next u ∧ r = (u.1, t.2 ++ u.2) := by
  induction a generalizing s r with
  | nil => exact ⟨fun h => ⟨(s, []), r, rfl, h, rfl⟩, by rintro ⟨_, u, ht, hu, rfl⟩; cases ht; exact hu⟩
  | cons i rest ih =>
    simp only [List.cons_append, performAll_cons_eq_next, ih]
    constructor
    · rintro ⟨t, _, ht, ⟨u, v, hu, hv, rfl⟩, rfl⟩
      exact ⟨_, v, ⟨t, u, ht, hu, rfl⟩, hv, by simp⟩
    · rintro ⟨_, v, ⟨t, u, ht, hu, rfl⟩, hv, rfl⟩
      exact ⟨t, _, ht, ⟨u, v, hu, hv, rfl⟩, by simp⟩

/-! ### Chunks of opcodes -/

/-- A chunk goes on exactly while the CPU is not halted, `brk` is clear and the budget is not used. -/
theorem Chunk.ended_eq_false {budget : Nat} {k : Chunk} :
    k.ended budget = false ↔ k.cpu.halted = false ∧ k.st.blk.brk = false ∧ k.used < budget := by
  simp [Chunk.ended, and_assoc]

/-- An opcode step takes at least `QUIRK_STEP_CYCLES`. -/
theorem Opcode.four_le_cycles (k : Opcode) : 4 ≤ k.cycles := Nat.le_add_right _ _

@[simp] theorem runOpcodes_nil (budget : Nat) (k : Chunk) :
    runOpcodes budget [] k = .next { k with program := [] } := rfl

/-- A chunk that has ended executes nothing more. -/
theorem runOpcodes_of_ended {budget : Nat} {program : List Opcode} {k : Chunk} (h : k.ended budget = true) :
    runOpcodes budget program k = .next { k with program := program } := by
  cases program <;> simp [runOpcodes, h]

/-- A chunk that has not ended performs the next opcode's operations, takes over its CPU side, and goes on. -/
theorem runOpcodes_cons {budget : Nat} {op : Opcode} {rest : List Opcode} {k : Chunk} (h : k.ended budget = false) :
    runOpcodes budget (op :: rest) k =
      andThen (performAll op.ops k.st) fun r =>
        runOpcodes budget rest
          { cpu := op.after k.cpu, st := r.1, used := k.used + op.cycles, ticked := k.ticked + ticksIn op.ops
            pulses := k.pulses ++ r.2, program := rest } := by
  simp [runOpcodes, h]

/-! ### Who issues what (R362) -/

/-- Nothing an opcode issues is a RESET or a LOAD_STATE. -/
theorem amongOpcode_not_platform {i : Instr} (h : amongOpcode i = true) : i ≠ .reset ∧ ∀ b, i ≠ .loadState b := by
  cases i <;> simp_all [amongOpcode, Agent.mayIssue]

/-- Nothing another unit issues is a RESET, a LOAD_STATE or a TICK. -/
theorem unit_not_platform_nor_tick {i : Instr} (h : Agent.unit.mayIssue i = true) :
    i ≠ .reset ∧ (∀ b, i ≠ .loadState b) ∧ ∀ n, i ≠ .tick n := by
  cases i <;> simp_all [Agent.mayIssue]

/-- No opcode issues a RESET or a LOAD_STATE. -/
theorem Opcode.ops_not_platform (k : Opcode) {i : Instr} (h : i ∈ k.ops) : i ≠ .reset ∧ ∀ b, i ≠ .loadState b :=
  amongOpcode_not_platform (List.all_eq_true.mp k.issued i h)

/-- No other unit issues a RESET, a LOAD_STATE or a TICK within an iteration. -/
theorem External.ops_not_platform_nor_tick (x : External) {i : Instr} (h : i ∈ x.ops) :
    i ≠ .reset ∧ (∀ b, i ≠ .loadState b) ∧ ∀ n, i ≠ .tick n :=
  unit_not_platform_nor_tick (List.all_eq_true.mp x.issued i h)

/-- The platform issues RESET and LOAD_STATE only. -/
theorem PlatformOp.mayIssue (p : PlatformOp) : Agent.platform.mayIssue p.instr = true := by cases p <;> rfl

@[simp] theorem performPlatform_nil (l : Loop) : performPlatform [] l = .next l := rfl

/-! ### Halt and dispatch -/

/-- A halted CPU executes no opcode. -/
theorem cpuChunk_halted {budget : Nat} {l : Loop} (h : l.cpu.halted = true) :
    cpuChunk budget l = .next ⟨l.cpu, l.st, haltCycles budget l.st, 0, [], l.program⟩ := by
  simp [cpuChunk, h]

/-- With IME = 0 or nothing selected a dispatch does nothing. -/
theorem dispatch_of_not {c : CpuSide} {s : State} (h : c.ime = false ∨ s.blk.irqSelect = none) :
    dispatch c s = .next (c, s) := by
  unfold dispatch
  cases hs : s.blk.irqSelect with
  | none => rfl
  | some src => simp_all

/-- The extra step is not taken where it is not due. -/
theorem extraStep_of_not {x : External} {p : Progress} (h : p.quirkDue = false) : extraStep x p = .next p := by
  simp [extraStep, h]

end Sys2Proof.Machine
end

