-- ==== Sys2Proof/Laws/Memory.lean ====
section
/-! SUPPORT. The laws of a store's contents: a read after a write, the canonical form kept by every write, and
equality of canonical memories that read the same. -/

namespace Sys2Proof.Machine

theorem Memory.lookup_write_same (m : Memory) (k : Nat) (v : Byte) : (m.write k v).lookup k = some v := by
  induction m with
  | nil => simp [Memory.write, Memory.lookup]
  | cons c rest ih =>
    obtain ⟨a, x⟩ := c
    rcases Nat.lt_trichotomy k a with h | h | h
    · simp [Memory.write, Memory.lookup, h]
    · simp [Memory.write, Memory.lookup, h]
    · simp [Memory.write, Memory.lookup, Nat.not_lt.mpr h.le, h.ne', h.ne, ih]

theorem Memory.lookup_write_other (m : Memory) {k j : Nat} (v : Byte) (hkj : j ≠ k) :
    (m.write k v).lookup j = m.lookup j := by
  induction m with
  | nil => simp [Memory.write, Memory.lookup, hkj.symm]
  | cons c rest ih =>
    obtain ⟨a, x⟩ := c
    rcases Nat.lt_trichotomy k a with h | h | h
    · simp [Memory.write, Memory.lookup, h, hkj.symm]
    · subst h; simp [Memory.write, Memory.lookup, hkj.symm]
    · simp [Memory.write, Memory.lookup, Nat.not_lt.mpr h.le, h.ne', ih]

/-- A read after a write: the byte written at its index, the old contents elsewhere. -/
theorem Memory.lookup_write (m : Memory) (k j : Nat) (v : Byte) :
    (m.write k v).lookup j = if j = k then some v else m.lookup j := by
  split
  · next h => subst h; exact m.lookup_write_same j v
  · next h => exact m.lookup_write_other v h

/-- Every cell of a written memory is the new one or an old one. -/
theorem Memory.mem_write {m : Memory} {k : Nat} {v : Byte} {c : Host.Cell} (h : c ∈ m.write k v) :
    c = (k, v) ∨ c ∈ m := by
  induction m with
  | nil => simpa [Memory.write] using h
  | cons d rest ih =>
    obtain ⟨a, x⟩ := d
    simp only [Memory.write] at h
    split at h
    · simpa using h
    · split at h
      · rcases List.mem_cons.mp h with h | h
        · exact .inl h
        · exact .inr (List.mem_cons_of_mem _ h)
      · rcases List.mem_cons.mp h with h | h
        · exact .inr (h ▸ List.mem_cons_self)
        · rcases ih h with h | h
          · exact .inl h
          · exact .inr (List.mem_cons_of_mem _ h)

/-- A write keeps the canonical form. -/
theorem Memory.write_wf {size : Nat} {m : Memory} {k : Nat} (v : Byte) (hm : m.wf size) (hk : k < size) :
    (m.write k v).wf size := by
  refine ⟨?_, fun c hc => ?_⟩
  · have hp := hm.1
    clear hm
    induction m with
    | nil => simp [Memory.write]
    | cons d rest ih =>
      obtain ⟨a, x⟩ := d
      obtain ⟨hhead, htail⟩ := List.pairwise_cons.mp hp
      simp only [Memory.write]
      split
      · next h =>
        refine List.pairwise_cons.mpr ⟨fun c hc => ?_, hp⟩
        rcases List.mem_cons.mp hc with h' | h'
        · subst h'; exact h
        · exact Nat.lt_trans h (hhead c h')
      · split
        · next h => subst h; exact List.pairwise_cons.mpr ⟨hhead, htail⟩
        · next h1 h2 =>
          refine List.pairwise_cons.mpr ⟨fun c hc => ?_, ih htail⟩
          rcases Memory.mem_write hc with h' | h'
          · subst h'; simp only; omega
          · exact hhead c h'
  · rcases Memory.mem_write hc with h | h
    · subst h; exact hk
    · exact hm.2 c h

theorem Memory.nil_wf (size : Nat) : Memory.wf size [] := ⟨List.Pairwise.nil, nofun⟩

/-- No index at or below the head of a canonical memory's tail is listed in the tail. -/
theorem Memory.lookup_eq_none {m : Memory} {k : Nat} (h : ∀ c ∈ m, k < c.1) : m.lookup k = none := by
  induction m with
  | nil => rfl
  | cons c rest ih =>
    have hc := h c List.mem_cons_self
    simp [Memory.lookup, hc.ne', ih fun d hd => h d (List.mem_cons_of_mem _ hd)]

/-- Canonical memories that hold the same written bytes are the same list. -/
theorem Memory.ext_of_lookup {m n : Memory} (hm : m.Pairwise (fun x y => x.1 < y.1))
    (hn : n.Pairwise (fun x y => x.1 < y.1)) (h : ∀ k, m.lookup k = n.lookup k) : m = n := by
  induction m generalizing n with
  | nil =>
    cases n with
    | nil => rfl
    | cons d ns => simpa [Memory.lookup] using h d.1
  | cons c ms ih =>
    cases n with
    | nil => simpa [Memory.lookup] using h c.1
    | cons d ns =>
      obtain ⟨hmh, hmt⟩ := List.pairwise_cons.mp hm
      obtain ⟨hnh, hnt⟩ := List.pairwise_cons.mp hn
      have hcd : c.1 = d.1 := by
        rcases Nat.lt_trichotomy c.1 d.1 with hlt | heq | hgt
        · have h1 := h c.1
          have h2 : Memory.lookup (d :: ns) c.1 = none := Memory.lookup_eq_none (m := d :: ns) fun e he => by
            rcases List.mem_cons.mp he with rfl | he
            · exact hlt
            · exact Nat.lt_trans hlt (hnh e he)
          rw [h2] at h1
          simp [Memory.lookup] at h1
        · exact heq
        · have h1 := h d.1
          have h2 : Memory.lookup (c :: ms) d.1 = none := Memory.lookup_eq_none (m := c :: ms) fun e he => by
            rcases List.mem_cons.mp he with rfl | he
            · exact hgt
            · exact Nat.lt_trans hgt (hmh e he)
          rw [h2] at h1
          simp [Memory.lookup] at h1
      have hval : c.2 = d.2 := by
        have h1 := h c.1
        simpa [Memory.lookup, hcd] using h1
      have hrest : ms = ns := ih hmt hnt fun k => by
        by_cases hk : k = c.1
        · subst hk
          rw [Memory.lookup_eq_none hmh, Memory.lookup_eq_none (hcd ▸ hnh)]
        · have h1 := h k
          simpa [Memory.lookup, Ne.symm hk, hcd ▸ Ne.symm hk] using h1
      rw [hrest, Prod.ext hcd hval]

end Sys2Proof.Machine
end

