-- ==== Sys2Proof/Laws/State.lean ====
section
/-! SUPPORT. One lemma per field per update of the state: what completing an operation, presenting a word, and the
block's small updates leave as it was. -/

namespace Sys2Proof.Machine

/-! ### State -/

@[simp] theorem complete_cfg (s : State) (b : Block) (r : Reply) (ps : List Pulse) : (s.complete b r ps).cfg = s.cfg := rfl
@[simp] theorem complete_blk (s : State) (b : Block) (r : Reply) (ps : List Pulse) : (s.complete b r ps).blk = b := rfl
@[simp] theorem complete_bootoffWritten (s : State) (b : Block) (r : Reply) (ps : List Pulse) :
    (s.complete b r ps).bootoffWritten = s.bootoffWritten := rfl
@[simp] theorem complete_out (s : State) (b : Block) (r : Reply) (ps : List Pulse) : (s.complete b r ps).out = ⟨r, ps⟩ := rfl
@[simp] theorem complete_port (s : State) (b : Block) (r : Reply) (ps : List Pulse) : (s.complete b r ps).port = s.port := rfl
@[simp] theorem complete_draws (s : State) (b : Block) (r : Reply) (ps : List Pulse) : (s.complete b r ps).draws = s.draws := rfl

@[simp] theorem withFetchWord_cfg (s : State) (nbits w : Nat) : (s.withFetchWord nbits w).cfg = s.cfg := rfl
@[simp] theorem withFetchWord_blk (s : State) (nbits w : Nat) : (s.withFetchWord nbits w).blk = s.blk := rfl
@[simp] theorem withFetchWord_bootoffWritten (s : State) (nbits w : Nat) :
    (s.withFetchWord nbits w).bootoffWritten = s.bootoffWritten := rfl
@[simp] theorem withFetchWord_out (s : State) (nbits w : Nat) : (s.withFetchWord nbits w).out = s.out := rfl
@[simp] theorem withFetchWord_draws (s : State) (nbits w : Nat) : (s.withFetchWord nbits w).draws = s.draws := rfl
@[simp] theorem withFetchWord_port (s : State) (nbits w : Nat) :
    (s.withFetchWord nbits w).port = fetchWord nbits w :: s.port := rfl

/-- `done` answers exactly the completed state. -/
@[simp] theorem done_eq_next (s t : State) (b : Block) (r : Reply) (ps : List Pulse) :
    done s b r ps = .next t ↔ s.complete b r ps = t := by simp [done]

/-! ### The page table refresh changes the page table only -/

@[simp] theorem mapBanks_cycle (cfg : Cfg) (b : Block) : (mapBanks cfg b).cycle = b.cycle := rfl
@[simp] theorem mapBanks_lastTimerCycle (cfg : Cfg) (b : Block) : (mapBanks cfg b).lastTimerCycle = b.lastTimerCycle := rfl
@[simp] theorem mapBanks_lastDividerCycle (cfg : Cfg) (b : Block) : (mapBanks cfg b).lastDividerCycle = b.lastDividerCycle := rfl
@[simp] theorem mapBanks_tima (cfg : Cfg) (b : Block) : (mapBanks cfg b).tima = b.tima := rfl
@[simp] theorem mapBanks_tma (cfg : Cfg) (b : Block) : (mapBanks cfg b).tma = b.tma := rfl
@[simp] theorem mapBanks_tac (cfg : Cfg) (b : Block) : (mapBanks cfg b).tac = b.tac := rfl
@[simp] theorem mapBanks_ifr (cfg : Cfg) (b : Block) : (mapBanks cfg b).ifr = b.ifr := rfl
@[simp] theorem mapBanks_ie (cfg : Cfg) (b : Block) : (mapBanks cfg b).ie = b.ie := rfl
@[simp] theorem mapBanks_brk (cfg : Cfg) (b : Block) : (mapBanks cfg b).brk = b.brk := rfl
@[simp] theorem mapBanks_lcdc (cfg : Cfg) (b : Block) : (mapBanks cfg b).lcdc = b.lcdc := rfl
@[simp] theorem mapBanks_stat (cfg : Cfg) (b : Block) : (mapBanks cfg b).stat = b.stat := rfl
@[simp] theorem mapBanks_ly (cfg : Cfg) (b : Block) : (mapBanks cfg b).ly = b.ly := rfl
@[simp] theorem mapBanks_lyc (cfg : Cfg) (b : Block) : (mapBanks cfg b).lyc = b.lyc := rfl
@[simp] theorem mapBanks_scanlineCounter (cfg : Cfg) (b : Block) : (mapBanks cfg b).scanlineCounter = b.scanlineCounter := rfl
@[simp] theorem mapBanks_offCounter (cfg : Cfg) (b : Block) : (mapBanks cfg b).offCounter = b.offCounter := rfl
@[simp] theorem mapBanks_cyclesSinceVblank (cfg : Cfg) (b : Block) : (mapBanks cfg b).cyclesSinceVblank = b.cyclesSinceVblank := rfl
@[simp] theorem mapBanks_ds (cfg : Cfg) (b : Block) : (mapBanks cfg b).ds = b.ds := rfl
@[simp] theorem mapBanks_biosMapped (cfg : Cfg) (b : Block) : (mapBanks cfg b).biosMapped = b.biosMapped := rfl
@[simp] theorem mapBanks_romBank (cfg : Cfg) (b : Block) : (mapBanks cfg b).romBank = b.romBank := rfl
@[simp] theorem mapBanks_ramBank (cfg : Cfg) (b : Block) : (mapBanks cfg b).ramBank = b.ramBank := rfl
@[simp] theorem mapBanks_ramEnabled (cfg : Cfg) (b : Block) : (mapBanks cfg b).ramEnabled = b.ramEnabled := rfl
@[simp] theorem mapBanks_wramBank (cfg : Cfg) (b : Block) : (mapBanks cfg b).wramBank = b.wramBank := rfl
@[simp] theorem mapBanks_vramBank (cfg : Cfg) (b : Block) : (mapBanks cfg b).vramBank = b.vramBank := rfl
@[simp] theorem mapBanks_vbk (cfg : Cfg) (b : Block) : (mapBanks cfg b).vbk = b.vbk := rfl
@[simp] theorem mapBanks_bootoff (cfg : Cfg) (b : Block) : (mapBanks cfg b).bootoff = b.bootoff := rfl
@[simp] theorem mapBanks_svbk (cfg : Cfg) (b : Block) : (mapBanks cfg b).svbk = b.svbk := rfl
@[simp] theorem mapBanks_vram (cfg : Cfg) (b : Block) : (mapBanks cfg b).vram = b.vram := rfl
@[simp] theorem mapBanks_xram (cfg : Cfg) (b : Block) : (mapBanks cfg b).xram = b.xram := rfl
@[simp] theorem mapBanks_wram (cfg : Cfg) (b : Block) : (mapBanks cfg b).wram = b.wram := rfl
@[simp] theorem mapBanks_oam (cfg : Cfg) (b : Block) : (mapBanks cfg b).oam = b.oam := rfl
@[simp] theorem mapBanks_hram (cfg : Cfg) (b : Block) : (mapBanks cfg b).hram = b.hram := rfl
@[simp] theorem mapBanks_io (cfg : Cfg) (b : Block) : (mapBanks cfg b).io = b.io := rfl
@[simp] theorem mapBanks_memDraw (cfg : Cfg) (b : Block) : (mapBanks cfg b).memDraw = b.memDraw := rfl

/-! ### An interrupt request changes IF and `brk` only -/

@[simp] theorem requestInterrupt_cycle (src : IrqSource) (b : Block) : (requestInterrupt src b).cycle = b.cycle := rfl
@[simp] theorem requestInterrupt_lastTimerCycle (src : IrqSource) (b : Block) : (requestInterrupt src b).lastTimerCycle = b.lastTimerCycle := rfl
@[simp] theorem requestInterrupt_lastDividerCycle (src : IrqSource) (b : Block) : (requestInterrupt src b).lastDividerCycle = b.lastDividerCycle := rfl
@[simp] theorem requestInterrupt_tima (src : IrqSource) (b : Block) : (requestInterrupt src b).tima = b.tima := rfl
@[simp] theorem requestInterrupt_tma (src : IrqSource) (b : Block) : (requestInterrupt src b).tma = b.tma := rfl
@[simp] theorem requestInterrupt_tac (src : IrqSource) (b : Block) : (requestInterrupt src b).tac = b.tac := rfl
@[simp] theorem requestInterrupt_ie (src : IrqSource) (b : Block) : (requestInterrupt src b).ie = b.ie := rfl
@[simp] theorem requestInterrupt_lcdc (src : IrqSource) (b : Block) : (requestInterrupt src b).lcdc = b.lcdc := rfl
@[simp] theorem requestInterrupt_stat (src : IrqSource) (b : Block) : (requestInterrupt src b).stat = b.stat := rfl
@[simp] theorem requestInterrupt_ly (src : IrqSource) (b : Block) : (requestInterrupt src b).ly = b.ly := rfl
@[simp] theorem requestInterrupt_lyc (src : IrqSource) (b : Block) : (requestInterrupt src b).lyc = b.lyc := rfl
@[simp] theorem requestInterrupt_scanlineCounter (src : IrqSource) (b : Block) : (requestInterrupt src b).scanlineCounter = b.scanlineCounter := rfl
@[simp] theorem requestInterrupt_offCounter (src : IrqSource) (b : Block) : (requestInterrupt src b).offCounter = b.offCounter := rfl
@[simp] theorem requestInterrupt_cyclesSinceVblank (src : IrqSource) (b : Block) : (requestInterrupt src b).cyclesSinceVblank = b.cyclesSinceVblank := rfl
@[simp] theorem requestInterrupt_ds (src : IrqSource) (b : Block) : (requestInterrupt src b).ds = b.ds := rfl
@[simp] theorem requestInterrupt_biosMapped (src : IrqSource) (b : Block) : (requestInterrupt src b).biosMapped = b.biosMapped := rfl
@[simp] theorem requestInterrupt_romBank (src : IrqSource) (b : Block) : (requestInterrupt src b).romBank = b.romBank := rfl
@[simp] theorem requestInterrupt_ramBank (src : IrqSource) (b : Block) : (requestInterrupt src b).ramBank = b.ramBank := rfl
@[simp] theorem requestInterrupt_ramEnabled (src : IrqSource) (b : Block) : (requestInterrupt src b).ramEnabled = b.ramEnabled := rfl
@[simp] theorem requestInterrupt_wramBank (src : IrqSource) (b : Block) : (requestInterrupt src b).wramBank = b.wramBank := rfl
@[simp] theorem requestInterrupt_vramBank (src : IrqSource) (b : Block) : (requestInterrupt src b).vramBank = b.vramBank := rfl
@[simp] theorem requestInterrupt_vbk (src : IrqSource) (b : Block) : (requestInterrupt src b).vbk = b.vbk := rfl
@[simp] theorem requestInterrupt_bootoff (src : IrqSource) (b : Block) : (requestInterrupt src b).bootoff = b.bootoff := rfl
@[simp] theorem requestInterrupt_svbk (src : IrqSource) (b : Block) : (requestInterrupt src b).svbk = b.svbk := rfl
@[simp] theorem requestInterrupt_pageTable (src : IrqSource) (b : Block) : (requestInterrupt src b).pageTable = b.pageTable := rfl
@[simp] theorem requestInterrupt_vram (src : IrqSource) (b : Block) : (requestInterrupt src b).vram = b.vram := rfl
@[simp] theorem requestInterrupt_xram (src : IrqSource) (b : Block) : (requestInterrupt src b).xram = b.xram := rfl
@[simp] theorem requestInterrupt_wram (src : IrqSource) (b : Block) : (requestInterrupt src b).wram = b.wram := rfl
@[simp] theorem requestInterrupt_oam (src : IrqSource) (b : Block) : (requestInterrupt src b).oam = b.oam := rfl
@[simp] theorem requestInterrupt_hram (src : IrqSource) (b : Block) : (requestInterrupt src b).hram = b.hram := rfl
@[simp] theorem requestInterrupt_io (src : IrqSource) (b : Block) : (requestInterrupt src b).io = b.io := rfl
@[simp] theorem requestInterrupt_memDraw (src : IrqSource) (b : Block) : (requestInterrupt src b).memDraw = b.memDraw := rfl

@[simp] theorem requestInterrupt_ifr (src : IrqSource) (b : Block) :
    (requestInterrupt src b).ifr = b.ifr ||| src.mask := rfl
@[simp] theorem requestInterrupt_brk (src : IrqSource) (b : Block) :
    (requestInterrupt src b).brk = (b.brk || pendingOf (b.ifr ||| src.mask) b.ie) := rfl

/-! ### A conditional request -/

theorem requestIf_frame (en : Bool) (src : IrqSource) (b : Block) :
    requestIf en src b = { b with ifr := (requestIf en src b).ifr, brk := (requestIf en src b).brk } := by
  cases en <;> rfl

@[simp] theorem requestIf_cycle (en : Bool) (src : IrqSource) (b : Block) : (requestIf en src b).cycle = b.cycle := (congrArg Block.cycle (requestIf_frame en src b)).trans rfl
@[simp] theorem requestIf_lastTimerCycle (en : Bool) (src : IrqSource) (b : Block) : (requestIf en src b).lastTimerCycle = b.lastTimerCycle := (congrArg Block.lastTimerCycle (requestIf_frame en src b)).trans rfl
@[simp] theorem requestIf_lastDividerCycle (en : Bool) (src : IrqSource) (b : Block) : (requestIf en src b).lastDividerCycle = b.lastDividerCycle := (congrArg Block.lastDividerCycle (requestIf_frame en src b)).trans rfl
@[simp] theorem requestIf_tima (en : Bool) (src : IrqSource) (b : Block) : (requestIf en src b).tima = b.tima := (congrArg Block.tima (requestIf_frame en src b)).trans rfl
@[simp] theorem requestIf_tma (en : Bool) (src : IrqSource) (b : Block) : (requestIf en src b).tma = b.tma := (congrArg Block.tma (requestIf_frame en src b)).trans rfl
@[simp] theorem requestIf_tac (en : Bool) (src : IrqSource) (b : Block) : (requestIf en src b).tac = b.tac := (congrArg Block.tac (requestIf_frame en src b)).trans rfl
@[simp] theorem requestIf_ie (en : Bool) (src : IrqSource) (b : Block) : (requestIf en src b).ie = b.ie := (congrArg Block.ie (requestIf_frame en src b)).trans rfl
@[simp] theorem requestIf_lcdc (en : Bool) (src : IrqSource) (b : Block) : (requestIf en src b).lcdc = b.lcdc := (congrArg Block.lcdc (requestIf_frame en src b)).trans rfl
@[simp] theorem requestIf_stat (en : Bool) (src : IrqSource) (b : Block) : (requestIf en src b).stat = b.stat := (congrArg Block.stat (requestIf_frame en src b)).trans rfl
@[simp] theorem requestIf_ly (en : Bool) (src : IrqSource) (b : Block) : (requestIf en src b).ly = b.ly := (congrArg Block.ly (requestIf_frame en src b)).trans rfl
@[simp] theorem requestIf_lyc (en : Bool) (src : IrqSource) (b : Block) : (requestIf en src b).lyc = b.lyc := (congrArg Block.lyc (requestIf_frame en src b)).trans rfl
@[simp] theorem requestIf_scanlineCounter (en : Bool) (src : IrqSource) (b : Block) : (requestIf en src b).scanlineCounter = b.scanlineCounter := (congrArg Block.scanlineCounter (requestIf_frame en src b)).trans rfl
@[simp] theorem requestIf_offCounter (en : Bool) (src : IrqSource) (b : Block) : (requestIf en src b).offCounter = b.offCounter := (congrArg Block.offCounter (requestIf_frame en src b)).trans rfl
@[simp] theorem requestIf_cyclesSinceVblank (en : Bool) (src : IrqSource) (b : Block) : (requestIf en src b).cyclesSinceVblank = b.cyclesSinceVblank := (congrArg Block.cyclesSinceVblank (requestIf_frame en src b)).trans rfl
@[simp] theorem requestIf_ds (en : Bool) (src : IrqSource) (b : Block) : (requestIf en src b).ds = b.ds := (congrArg Block.ds (requestIf_frame en src b)).trans rfl
@[simp] theorem requestIf_biosMapped (en : Bool) (src : IrqSource) (b : Block) : (requestIf en src b).biosMapped = b.biosMapped := (congrArg Block.biosMapped (requestIf_frame en src b)).trans rfl
@[simp] theorem requestIf_romBank (en : Bool) (src : IrqSource) (b : Block) : (requestIf en src b).romBank = b.romBank := (congrArg Block.romBank (requestIf_frame en src b)).trans rfl
@[simp] theorem requestIf_ramBank (en : Bool) (src : IrqSource) (b : Block) : (requestIf en src b).ramBank = b.ramBank := (congrArg Block.ramBank (requestIf_frame en src b)).trans rfl
@[simp] theorem requestIf_ramEnabled (en : Bool) (src : IrqSource) (b : Block) : (requestIf en src b).ramEnabled = b.ramEnabled := (congrArg Block.ramEnabled (requestIf_frame en src b)).trans rfl
@[simp] theorem requestIf_wramBank (en : Bool) (src : IrqSource) (b : Block) : (requestIf en src b).wramBank = b.wramBank := (congrArg Block.wramBank (requestIf_frame en src b)).trans rfl
@[simp] theorem requestIf_vramBank (en : Bool) (src : IrqSource) (b : Block) : (requestIf en src b).vramBank = b.vramBank := (congrArg Block.vramBank (requestIf_frame en src b)).trans rfl
@[simp] theorem requestIf_vbk (en : Bool) (src : IrqSource) (b : Block) : (requestIf en src b).vbk = b.vbk := (congrArg Block.vbk (requestIf_frame en src b)).trans rfl
@[simp] theorem requestIf_bootoff (en : Bool) (src : IrqSource) (b : Block) : (requestIf en src b).bootoff = b.bootoff := (congrArg Block.bootoff (requestIf_frame en src b)).trans rfl
@[simp] theorem requestIf_svbk (en : Bool) (src : IrqSource) (b : Block) : (requestIf en src b).svbk = b.svbk := (congrArg Block.svbk (requestIf_frame en src b)).trans rfl
@[simp] theorem requestIf_pageTable (en : Bool) (src : IrqSource) (b : Block) : (requestIf en src b).pageTable = b.pageTable := (congrArg Block.pageTable (requestIf_frame en src b)).trans rfl
@[simp] theorem requestIf_vram (en : Bool) (src : IrqSource) (b : Block) : (requestIf en src b).vram = b.vram := (congrArg Block.vram (requestIf_frame en src b)).trans rfl
@[simp] theorem requestIf_xram (en : Bool) (src : IrqSource) (b : Block) : (requestIf en src b).xram = b.xram := (congrArg Block.xram (requestIf_frame en src b)).trans rfl
@[simp] theorem requestIf_wram (en : Bool) (src : IrqSource) (b : Block) : (requestIf en src b).wram = b.wram := (congrArg Block.wram (requestIf_frame en src b)).trans rfl
@[simp] theorem requestIf_oam (en : Bool) (src : IrqSource) (b : Block) : (requestIf en src b).oam = b.oam := (congrArg Block.oam (requestIf_frame en src b)).trans rfl
@[simp] theorem requestIf_hram (en : Bool) (src : IrqSource) (b : Block) : (requestIf en src b).hram = b.hram := (congrArg Block.hram (requestIf_frame en src b)).trans rfl
@[simp] theorem requestIf_io (en : Bool) (src : IrqSource) (b : Block) : (requestIf en src b).io = b.io := (congrArg Block.io (requestIf_frame en src b)).trans rfl
@[simp] theorem requestIf_memDraw (en : Bool) (src : IrqSource) (b : Block) : (requestIf en src b).memDraw = b.memDraw := (congrArg Block.memDraw (requestIf_frame en src b)).trans rfl

@[simp] theorem requestIf_ifr (en : Bool) (src : IrqSource) (b : Block) :
    (requestIf en src b).ifr = if en then b.ifr ||| src.mask else b.ifr := by cases en <;> rfl
@[simp] theorem requestIf_brk (en : Bool) (src : IrqSource) (b : Block) :
    (requestIf en src b).brk = if en then b.brk || pendingOf (b.ifr ||| src.mask) b.ie else b.brk := by
  cases en <;> rfl

end Sys2Proof.Machine
end

