-- ==== Sys2Proof/Laws/Ops.lean ====
section
/-! SUPPORT. What the shared operations can do, said once each: the fields an operation can write, and that every
other field is as it was. -/

namespace Sys2Proof.Machine

/-! ### The timer -/

/-- The overflow loop writes TIMA, IF and `brk` only. -/
theorem reloadLoop_frame (fuel c : Nat) (b : Block) :
    reloadLoop fuel c b = { b with
      tima := (reloadLoop fuel c b).tima, ifr := (reloadLoop fuel c b).ifr, brk := (reloadLoop fuel c b).brk } := by
  induction fuel generalizing c b with
  | zero => rfl
  | succ n ih =>
    simp only [reloadLoop]
    split
    · rw [ih]; rfl
    · rfl

/-- `timer_sync()` writes TIMA, `lastTimerCycle`, IF and `brk` only (R189). -/
theorem timerSync_frame (cfg : Cfg) (b : Block) :
    timerSync cfg b = { b with
      lastTimerCycle := (timerSync cfg b).lastTimerCycle, tima := (timerSync cfg b).tima
      ifr := (timerSync cfg b).ifr, brk := (timerSync cfg b).brk } := by
  unfold timerSync
  split
  · rw [reloadLoop_frame]
  · rfl

@[simp] theorem timerSync_cycle (cfg : Cfg) (b : Block) : (timerSync cfg b).cycle = b.cycle := (congrArg Block.cycle (timerSync_frame cfg b)).trans rfl
@[simp] theorem timerSync_lastDividerCycle (cfg : Cfg) (b : Block) : (timerSync cfg b).lastDividerCycle = b.lastDividerCycle := (congrArg Block.lastDividerCycle (timerSync_frame cfg b)).trans rfl
@[simp] theorem timerSync_tma (cfg : Cfg) (b : Block) : (timerSync cfg b).tma = b.tma := (congrArg Block.tma (timerSync_frame cfg b)).trans rfl
@[simp] theorem timerSync_tac (cfg : Cfg) (b : Block) : (timerSync cfg b).tac = b.tac := (congrArg Block.tac (timerSync_frame cfg b)).trans rfl
@[simp] theorem timerSync_ie (cfg : Cfg) (b : Block) : (timerSync cfg b).ie = b.ie := (congrArg Block.ie (timerSync_frame cfg b)).trans rfl
@[simp] theorem timerSync_lcdc (cfg : Cfg) (b : Block) : (timerSync cfg b).lcdc = b.lcdc := (congrArg Block.lcdc (timerSync_frame cfg b)).trans rfl
@[simp] theorem timerSync_stat (cfg : Cfg) (b : Block) : (timerSync cfg b).stat = b.stat := (congrArg Block.stat (timerSync_frame cfg b)).trans rfl
@[simp] theorem timerSync_ly (cfg : Cfg) (b : Block) : (timerSync cfg b).ly = b.ly := (congrArg Block.ly (timerSync_frame cfg b)).trans rfl
@[simp] theorem timerSync_lyc (cfg : Cfg) (b : Block) : (timerSync cfg b).lyc = b.lyc := (congrArg Block.lyc (timerSync_frame cfg b)).trans rfl
@[simp] theorem timerSync_scanlineCounter (cfg : Cfg) (b : Block) : (timerSync cfg b).scanlineCounter = b.scanlineCounter := (congrArg Block.scanlineCounter (timerSync_frame cfg b)).trans rfl
@[simp] theorem timerSync_offCounter (cfg : Cfg) (b : Block) : (timerSync cfg b).offCounter = b.offCounter := (congrArg Block.offCounter (timerSync_frame cfg b)).trans rfl
@[simp] theorem timerSync_cyclesSinceVblank (cfg : Cfg) (b : Block) : (timerSync cfg b).cyclesSinceVblank = b.cyclesSinceVblank := (congrArg Block.cyclesSinceVblank (timerSync_frame cfg b)).trans rfl
@[simp] theorem timerSync_ds (cfg : Cfg) (b : Block) : (timerSync cfg b).ds = b.ds := (congrArg Block.ds (timerSync_frame cfg b)).trans rfl
@[simp] theorem timerSync_biosMapped (cfg : Cfg) (b : Block) : (timerSync cfg b).biosMapped = b.biosMapped := (congrArg Block.biosMapped (timerSync_frame cfg b)).trans rfl
@[simp] theorem timerSync_romBank (cfg : Cfg) (b : Block) : (timerSync cfg b).romBank = b.romBank := (congrArg Block.romBank (timerSync_frame cfg b)).trans rfl
@[simp] theorem timerSync_ramBank (cfg : Cfg) (b : Block) : (timerSync cfg b).ramBank = b.ramBank := (congrArg Block.ramBank (timerSync_frame cfg b)).trans rfl
@[simp] theorem timerSync_ramEnabled (cfg : Cfg) (b : Block) : (timerSync cfg b).ramEnabled = b.ramEnabled := (congrArg Block.ramEnabled (timerSync_frame cfg b)).trans rfl
@[simp] theorem timerSync_wramBank (cfg : Cfg) (b : Block) : (timerSync cfg b).wramBank = b.wramBank := (congrArg Block.wramBank (timerSync_frame cfg b)).trans rfl
@[simp] theorem timerSync_vramBank (cfg : Cfg) (b : Block) : (timerSync cfg b).vramBank = b.vramBank := (congrArg Block.vramBank (timerSync_frame cfg b)).trans rfl
@[simp] theorem timerSync_vbk (cfg : Cfg) (b : Block) : (timerSync cfg b).vbk = b.vbk := (congrArg Block.vbk (timerSync_frame cfg b)).trans rfl
@[simp] theorem timerSync_bootoff (cfg : Cfg) (b : Block) : (timerSync cfg b).bootoff = b.bootoff := (congrArg Block.bootoff (timerSync_frame cfg b)).trans rfl
@[simp] theorem timerSync_svbk (cfg : Cfg) (b : Block) : (timerSync cfg b).svbk = b.svbk := (congrArg Block.svbk (timerSync_frame cfg b)).trans rfl
@[simp] theorem timerSync_pageTable (cfg : Cfg) (b : Block) : (timerSync cfg b).pageTable = b.pageTable := (congrArg Block.pageTable (timerSync_frame cfg b)).trans rfl
@[simp] theorem timerSync_vram (cfg : Cfg) (b : Block) : (timerSync cfg b).vram = b.vram := (congrArg Block.vram (timerSync_frame cfg b)).trans rfl
@[simp] theorem timerSync_xram (cfg : Cfg) (b : Block) : (timerSync cfg b).xram = b.xram := (congrArg Block.xram (timerSync_frame cfg b)).trans rfl
@[simp] theorem timerSync_wram (cfg : Cfg) (b : Block) : (timerSync cfg b).wram = b.wram := (congrArg Block.wram (timerSync_frame cfg b)).trans rfl
@[simp] theorem timerSync_oam (cfg : Cfg) (b : Block) : (timerSync cfg b).oam = b.oam := (congrArg Block.oam (timerSync_frame cfg b)).trans rfl
@[simp] theorem timerSync_hram (cfg : Cfg) (b : Block) : (timerSync cfg b).hram = b.hram := (congrArg Block.hram (timerSync_frame cfg b)).trans rfl
@[simp] theorem timerSync_io (cfg : Cfg) (b : Block) : (timerSync cfg b).io = b.io := (congrArg Block.io (timerSync_frame cfg b)).trans rfl
@[simp] theorem timerSync_memDraw (cfg : Cfg) (b : Block) : (timerSync cfg b).memDraw = b.memDraw := (congrArg Block.memDraw (timerSync_frame cfg b)).trans rfl

/-! ### The LCD -/

/-- `lyc_check()` writes STAT, IF and `brk` only (R220). -/
theorem lycCheck_frame (b : Block) :
    lycCheck b = { b with stat := (lycCheck b).stat, ifr := (lycCheck b).ifr, brk := (lycCheck b).brk } := by
  unfold lycCheck
  simp only
  rw [requestIf_frame]

@[simp] theorem lycCheck_cycle (b : Block) : (lycCheck b).cycle = b.cycle := (congrArg Block.cycle (lycCheck_frame b)).trans rfl
@[simp] theorem lycCheck_lastTimerCycle (b : Block) : (lycCheck b).lastTimerCycle = b.lastTimerCycle := (congrArg Block.lastTimerCycle (lycCheck_frame b)).trans rfl
@[simp] theorem lycCheck_lastDividerCycle (b : Block) : (lycCheck b).lastDividerCycle = b.lastDividerCycle := (congrArg Block.lastDividerCycle (lycCheck_frame b)).trans rfl
@[simp] theorem lycCheck_tima (b : Block) : (lycCheck b).tima = b.tima := (congrArg Block.tima (lycCheck_frame b)).trans rfl
@[simp] theorem lycCheck_tma (b : Block) : (lycCheck b).tma = b.tma := (congrArg Block.tma (lycCheck_frame b)).trans rfl
@[simp] theorem lycCheck_tac (b : Block) : (lycCheck b).tac = b.tac := (congrArg Block.tac (lycCheck_frame b)).trans rfl
@[simp] theorem lycCheck_ie (b : Block) : (lycCheck b).ie = b.ie := (congrArg Block.ie (lycCheck_frame b)).trans rfl
@[simp] theorem lycCheck_lcdc (b : Block) : (lycCheck b).lcdc = b.lcdc := (congrArg Block.lcdc (lycCheck_frame b)).trans rfl
@[simp] theorem lycCheck_ly (b : Block) : (lycCheck b).ly = b.ly := (congrArg Block.ly (lycCheck_frame b)).trans rfl
@[simp] theorem lycCheck_lyc (b : Block) : (lycCheck b).lyc = b.lyc := (congrArg Block.lyc (lycCheck_frame b)).trans rfl
@[simp] theorem lycCheck_scanlineCounter (b : Block) : (lycCheck b).scanlineCounter = b.scanlineCounter := (congrArg Block.scanlineCounter (lycCheck_frame b)).trans rfl
@[simp] theorem lycCheck_offCounter (b : Block) : (lycCheck b).offCounter = b.offCounter := (congrArg Block.offCounter (lycCheck_frame b)).trans rfl
@[simp] theorem lycCheck_cyclesSinceVblank (b : Block) : (lycCheck b).cyclesSinceVblank = b.cyclesSinceVblank := (congrArg Block.cyclesSinceVblank (lycCheck_frame b)).trans rfl
@[simp] theorem lycCheck_ds (b : Block) : (lycCheck b).ds = b.ds := (congrArg Block.ds (lycCheck_frame b)).trans rfl
@[simp] theorem lycCheck_biosMapped (b : Block) : (lycCheck b).biosMapped = b.biosMapped := (congrArg Block.biosMapped (lycCheck_frame b)).trans rfl
@[simp] theorem lycCheck_romBank (b : Block) : (lycCheck b).romBank = b.romBank := (congrArg Block.romBank (lycCheck_frame b)).trans rfl
@[simp] theorem lycCheck_ramBank (b : Block) : (lycCheck b).ramBank = b.ramBank := (congrArg Block.ramBank (lycCheck_frame b)).trans rfl
@[simp] theorem lycCheck_ramEnabled (b : Block) : (lycCheck b).ramEnabled = b.ramEnabled := (congrArg Block.ramEnabled (lycCheck_frame b)).trans rfl
@[simp] theorem lycCheck_wramBank (b : Block) : (lycCheck b).wramBank = b.wramBank := (congrArg Block.wramBank (lycCheck_frame b)).trans rfl
@[simp] theorem lycCheck_vramBank (b : Block) : (lycCheck b).vramBank = b.vramBank := (congrArg Block.vramBank (lycCheck_frame b)).trans rfl
@[simp] theorem lycCheck_vbk (b : Block) : (lycCheck b).vbk = b.vbk := (congrArg Block.vbk (lycCheck_frame b)).trans rfl
@[simp] theorem lycCheck_bootoff (b : Block) : (lycCheck b).bootoff = b.bootoff := (congrArg Block.bootoff (lycCheck_frame b)).trans rfl
@[simp] theorem lycCheck_svbk (b : Block) : (lycCheck b).svbk = b.svbk := (congrArg Block.svbk (lycCheck_frame b)).trans rfl
@[simp] theorem lycCheck_pageTable (b : Block) : (lycCheck b).pageTable = b.pageTable := (congrArg Block.pageTable (lycCheck_frame b)).trans rfl
@[simp] theorem lycCheck_vram (b : Block) : (lycCheck b).vram = b.vram := (congrArg Block.vram (lycCheck_frame b)).trans rfl
@[simp] theorem lycCheck_xram (b : Block) : (lycCheck b).xram = b.xram := (congrArg Block.xram (lycCheck_frame b)).trans rfl
@[simp] theorem lycCheck_wram (b : Block) : (lycCheck b).wram = b.wram := (congrArg Block.wram (lycCheck_frame b)).trans rfl
@[simp] theorem lycCheck_oam (b : Block) : (lycCheck b).oam = b.oam := (congrArg Block.oam (lycCheck_frame b)).trans rfl
@[simp] theorem lycCheck_hram (b : Block) : (lycCheck b).hram = b.hram := (congrArg Block.hram (lycCheck_frame b)).trans rfl
@[simp] theorem lycCheck_io (b : Block) : (lycCheck b).io = b.io := (congrArg Block.io (lycCheck_frame b)).trans rfl
@[simp] theorem lycCheck_memDraw (b : Block) : (lycCheck b).memDraw = b.memDraw := (congrArg Block.memDraw (lycCheck_frame b)).trans rfl

@[simp] theorem lycCheck_stat (b : Block) : (lycCheck b).stat = statWithMatch b.stat (decide (b.ly = b.lyc)) := by
  simp [lycCheck]

/-- `enter_mode2()` writes STAT, IF, `brk` and `scanlineCounter` only (R213). -/
theorem enterMode2_frame (b : Block) :
    enterMode2 b = { b with
      stat := statWithMode b.stat 2, ifr := (enterMode2 b).ifr, brk := (enterMode2 b).brk
      scanlineCounter := b.scaled Config.mode2Cycles } := by
  unfold enterMode2
  simp only
  rw [requestIf_frame]
  rfl

@[simp] theorem enterMode2_cycle (b : Block) : (enterMode2 b).cycle = b.cycle := (congrArg Block.cycle (enterMode2_frame b)).trans rfl
@[simp] theorem enterMode2_lastTimerCycle (b : Block) : (enterMode2 b).lastTimerCycle = b.lastTimerCycle := (congrArg Block.lastTimerCycle (enterMode2_frame b)).trans rfl
@[simp] theorem enterMode2_lastDividerCycle (b : Block) : (enterMode2 b).lastDividerCycle = b.lastDividerCycle := (congrArg Block.lastDividerCycle (enterMode2_frame b)).trans rfl
@[simp] theorem enterMode2_tima (b : Block) : (enterMode2 b).tima = b.tima := (congrArg Block.tima (enterMode2_frame b)).trans rfl
@[simp] theorem enterMode2_tma (b : Block) : (enterMode2 b).tma = b.tma := (congrArg Block.tma (enterMode2_frame b)).trans rfl
@[simp] theorem enterMode2_tac (b : Block) : (enterMode2 b).tac = b.tac := (congrArg Block.tac (enterMode2_frame b)).trans rfl
@[simp] theorem enterMode2_ie (b : Block) : (enterMode2 b).ie = b.ie := (congrArg Block.ie (enterMode2_frame b)).trans rfl
@[simp] theorem enterMode2_lcdc (b : Block) : (enterMode2 b).lcdc = b.lcdc := (congrArg Block.lcdc (enterMode2_frame b)).trans rfl
@[simp] theorem enterMode2_ly (b : Block) : (enterMode2 b).ly = b.ly := (congrArg Block.ly (enterMode2_frame b)).trans rfl
@[simp] theorem enterMode2_lyc (b : Block) : (enterMode2 b).lyc = b.lyc := (congrArg Block.lyc (enterMode2_frame b)).trans rfl
@[simp] theorem enterMode2_offCounter (b : Block) : (enterMode2 b).offCounter = b.offCounter := (congrArg Block.offCounter (enterMode2_frame b)).trans rfl
@[simp] theorem enterMode2_cyclesSinceVblank (b : Block) : (enterMode2 b).cyclesSinceVblank = b.cyclesSinceVblank := (congrArg Block.cyclesSinceVblank (enterMode2_frame b)).trans rfl
@[simp] theorem enterMode2_ds (b : Block) : (enterMode2 b).ds = b.ds := (congrArg Block.ds (enterMode2_frame b)).trans rfl
@[simp] theorem enterMode2_biosMapped (b : Block) : (enterMode2 b).biosMapped = b.biosMapped := (congrArg Block.biosMapped (enterMode2_frame b)).trans rfl
@[simp] theorem enterMode2_romBank (b : Block) : (enterMode2 b).romBank = b.romBank := (congrArg Block.romBank (enterMode2_frame b)).trans rfl
@[simp] theorem enterMode2_ramBank (b : Block) : (enterMode2 b).ramBank = b.ramBank := (congrArg Block.ramBank (enterMode2_frame b)).trans rfl
@[simp] theorem enterMode2_ramEnabled (b : Block) : (enterMode2 b).ramEnabled = b.ramEnabled := (congrArg Block.ramEnabled (enterMode2_frame b)).trans rfl
@[simp] theorem enterMode2_wramBank (b : Block) : (enterMode2 b).wramBank = b.wramBank := (congrArg Block.wramBank (enterMode2_frame b)).trans rfl
@[simp] theorem enterMode2_vramBank (b : Block) : (enterMode2 b).vramBank = b.vramBank := (congrArg Block.vramBank (enterMode2_frame b)).trans rfl
@[simp] theorem enterMode2_vbk (b : Block) : (enterMode2 b).vbk = b.vbk := (congrArg Block.vbk (enterMode2_frame b)).trans rfl
@[simp] theorem enterMode2_bootoff (b : Block) : (enterMode2 b).bootoff = b.bootoff := (congrArg Block.bootoff (enterMode2_frame b)).trans rfl
@[simp] theorem enterMode2_svbk (b : Block) : (enterMode2 b).svbk = b.svbk := (congrArg Block.svbk (enterMode2_frame b)).trans rfl
@[simp] theorem enterMode2_pageTable (b : Block) : (enterMode2 b).pageTable = b.pageTable := (congrArg Block.pageTable (enterMode2_frame b)).trans rfl
@[simp] theorem enterMode2_vram (b : Block) : (enterMode2 b).vram = b.vram := (congrArg Block.vram (enterMode2_frame b)).trans rfl
@[simp] theorem enterMode2_xram (b : Block) : (enterMode2 b).xram = b.xram := (congrArg Block.xram (enterMode2_frame b)).trans rfl
@[simp] theorem enterMode2_wram (b : Block) : (enterMode2 b).wram = b.wram := (congrArg Block.wram (enterMode2_frame b)).trans rfl
@[simp] theorem enterMode2_oam (b : Block) : (enterMode2 b).oam = b.oam := (congrArg Block.oam (enterMode2_frame b)).trans rfl
@[simp] theorem enterMode2_hram (b : Block) : (enterMode2 b).hram = b.hram := (congrArg Block.hram (enterMode2_frame b)).trans rfl
@[simp] theorem enterMode2_io (b : Block) : (enterMode2 b).io = b.io := (congrArg Block.io (enterMode2_frame b)).trans rfl
@[simp] theorem enterMode2_memDraw (b : Block) : (enterMode2 b).memDraw = b.memDraw := (congrArg Block.memDraw (enterMode2_frame b)).trans rfl

@[simp] theorem enterMode2_stat (b : Block) : (enterMode2 b).stat = statWithMode b.stat 2 :=
  (congrArg Block.stat (enterMode2_frame b)).trans rfl
@[simp] theorem enterMode2_scanlineCounter (b : Block) : (enterMode2 b).scanlineCounter = b.scaled Config.mode2Cycles :=
  (congrArg Block.scanlineCounter (enterMode2_frame b)).trans rfl

/-! ### The stores -/

/-- A store write, read back: the byte written at its cell, the old byte at every other cell of every store. -/
theorem byteOf_writeByte (b : Block) (st st' : Store) (i j : Nat) (v : Byte) :
    (b.writeByte st i v).byteOf st' j = if st' = st ∧ j = i then v else b.byteOf st' j := by
  by_cases h : j = i <;> cases st <;> cases st' <;>
    simp [Block.writeByte, Block.byteOf, Block.storeOf, Memory.lookup_write, h]

/-- A store write changes the stores only. -/
theorem writeByte_frame (b : Block) (st : Store) (i : Nat) (v : Byte) :
    b.writeByte st i v = { b with
      vram := (b.writeByte st i v).vram, xram := (b.writeByte st i v).xram, wram := (b.writeByte st i v).wram
      oam := (b.writeByte st i v).oam, hram := (b.writeByte st i v).hram, io := (b.writeByte st i v).io } := by
  cases st <;> rfl

/-- A write through the table is a store write or nothing (R133). -/
theorem tableWrite_cases (b : Block) (a : Addr) (v : Byte) :
    (∃ st i, (b.entryOf a).cell (pageOff a) = some (st, i) ∧ tableWrite b a v = b.writeByte st i v) ∨
      ((b.entryOf a).cell (pageOff a) = none ∧ tableWrite b a v = b) := by
  unfold tableWrite pageWrite
  cases h : (b.entryOf a).cell (pageOff a) with
  | none => exact .inr ⟨rfl, rfl⟩
  | some c => exact .inl ⟨c.1, c.2, rfl, rfl⟩

/-! ### The legality check of an aggregate -/

/-- `legal` is the conjunction of the invariants of R54 and the memories' canonical form. -/
theorem legal_iff (cfg : Cfg) (w : Bool) (b : Block) :
    b.legal cfg w = true ↔
      b.inv1 ∧ b.inv3 ∧ b.inv4 ∧ b.inv5 ∧ b.inv6 cfg ∧ b.inv7 cfg ∧ b.inv8 cfg w ∧ b.inv9 ∧ b.memWf cfg := by
  simp only [Block.legal, Bool.and_eq_true, decide_eq_true_eq, and_assoc]

/-- LOAD_STATE answers a next state exactly for a snapshot that is legal in the session it continues, and it is this
state. -/
theorem execLoadState_next (b : Block) (s t : State) :
    execLoadState b s = .next t ↔
      b.legal s.cfg (writtenOnLoad b s) = true ∧
        { s with blk := resynchronised s.cfg b, bootoffWritten := writtenOnLoad b s, out := ⟨.none, []⟩
                 draws := max s.draws (b.memDraw + 1) } = t := by
  unfold execLoadState
  split <;> simp [State.complete, *]

/-- Loading a snapshot with the overlay active means that no BOOTOFF write was known before or is shown by it. -/
theorem execLoadState_biosMapped {b : Block} {s t : State} (h : execLoadState b s = .next t)
    (hm : t.blk.biosMapped = true) : s.bootoffWritten = false ∧ b.showsBootoff s.cfg = false := by
  obtain ⟨hl, rfl⟩ := (execLoadState_next b s t).mp h
  have h8 := ((legal_iff _ _ _).mp hl).2.2.2.2.2.2.1 hm
  simpa [writtenOnLoad] using h8.2

end Sys2Proof.Machine
end

