-- ==== Sys2Proof/Laws/Lcd.lean ====
section
/-! SUPPORT. What one LCD step can do, said once: the fields it can write. -/

namespace Sys2Proof.Machine

/-- `lcd_step()` writes IF, `brk`, STAT, LY, the two LCD counters and `cyclesSinceVblank` only (R225). -/
theorem lcdStep_frame (b : Block) :
    (lcdStep b).1 = { b with
      ifr := (lcdStep b).1.ifr, brk := (lcdStep b).1.brk, stat := (lcdStep b).1.stat, ly := (lcdStep b).1.ly
      scanlineCounter := (lcdStep b).1.scanlineCounter, offCounter := (lcdStep b).1.offCounter
      cyclesSinceVblank := (lcdStep b).1.cyclesSinceVblank } := by
  unfold lcdStep
  split
  · split
    · unfold transition
      split
      · rfl
      · simp only [mode3To0, requestIf]; split <;> rfl
      · simp only [endOfMode0]
        split
        · simp only [Block.newLine, lycCheck, requestIf]; split <;> split <;> rfl
        · simp only [Block.newLine, enterMode2, lycCheck, requestIf]; split <;> split <;> rfl
      · simp only [endOfMode1]
        split
        · simp only [Block.newLine, lycCheck, requestIf]; split <;> rfl
        · split
          · simp only [Block.newLine, lycCheck, requestIf]; split <;> rfl
          · simp only [Block.newLine, enterMode2, lycCheck, requestIf]; split <;> split <;> rfl
    · rfl
  · unfold offStep; split <;> rfl

end Sys2Proof.Machine
end

