-- ==== Sys2Proof/Laws/PerInstr.lean ====
section
/-! SUPPORT. Statements made per operation. Family `PortFormat`: the word of an operation arrives on the port of its
format, a bus write with `rw = 1` and its data byte, a bus read with `rw = 0`, an event with its selector
(spec/30_encoding.md R101, R104, R105). -/

namespace Sys2Proof.Laws.PortFormat

/-- The port word has the form: BUS with this `rw`, or EVT with this selector. -/
def hasForm (w : PortWord) (form : BitVec 1 ⊕ BitVec 4) : Prop :=
  match w, form with
  | .bus word _, .inl rw => word.extractLsb' 16 1 = rw
  | .evt sel _, .inr k => sel = k
  | _, _ => False

/-- The form of an operation's word. -/
def formOf : Instr → BitVec 1 ⊕ BitVec 4
  | .tick _ => .inr 0
  | .irqReq _ => .inr 1
  | .irqAck => .inr 2
  | .brkClr => .inr 3
  | .speedSwitch => .inr 4
  | .mbcRombank _ => .inr 5
  | .mbcRambank _ => .inr 6
  | .mbcRamen _ => .inr 7
  | .reset => .inr 8
  | .loadState _ => .inr 9
  | .rdDiv | .rdTima | .rdTma | .rdTac | .rdIf | .rdLcdc | .rdStat | .rdLy | .rdLyc | .rdIe => .inl 0
  | .rdHram _ | .rdIo _ | .rdOam _ | .rdUnused _ | .rdEcho1 _ | .rdEcho0 _ | .rdWramx _ | .rdWram0 _ => .inl 0
  | .rdXram _ | .rdVram _ | .rdRomx _ | .rdRom0 _ => .inl 0
  | .wrDiv _ | .wrTima _ | .wrTma _ | .wrTac _ | .wrIf _ | .wrLcdc _ | .wrStat _ | .wrLy _ | .wrLyc _ => .inl 1
  | .wrVbk _ | .wrBootoff _ | .wrSvbk _ | .wrIe _ | .wrHram _ _ | .wrIo _ _ | .wrOam _ _ | .wrUnused _ _ => .inl 1
  | .wrEcho1 _ _ | .wrEcho0 _ _ | .wrWramx _ _ | .wrWram0 _ _ | .wrXram _ _ | .wrVram _ _ | .wrRom _ _ => .inl 1

/-- The encoded word has the operation's form. -/
def Statement (i : Instr) : Prop := hasForm (encode i) (formOf i)

/-- Bit 16 of a bus word is `rw`. -/
theorem rw_bit (rw : BitVec 1) (a : Addr) : (rw ++ a).extractLsb' 16 1 = rw := by
  apply BitVec.eq_of_getLsbD_eq
  intro i hi
  obtain rfl : i = 0 := by omega
  rw [BitVec.getLsbD_extractLsb', BitVec.getLsbD_append]
  simp

theorem wrDiv (v : Byte) : Statement (.wrDiv v) := rw_bit _ _
theorem wrTima (v : Byte) : Statement (.wrTima v) := rw_bit _ _
theorem wrTma (v : Byte) : Statement (.wrTma v) := rw_bit _ _
theorem wrTac (v : Byte) : Statement (.wrTac v) := rw_bit _ _
theorem wrIf (v : Byte) : Statement (.wrIf v) := rw_bit _ _
theorem wrLcdc (v : Byte) : Statement (.wrLcdc v) := rw_bit _ _
theorem wrStat (v : Byte) : Statement (.wrStat v) := rw_bit _ _
theorem wrLy (v : Byte) : Statement (.wrLy v) := rw_bit _ _
theorem wrLyc (v : Byte) : Statement (.wrLyc v) := rw_bit _ _
theorem wrVbk (v : Byte) : Statement (.wrVbk v) := rw_bit _ _
theorem wrBootoff (v : Byte) : Statement (.wrBootoff v) := rw_bit _ _
theorem wrSvbk (v : Byte) : Statement (.wrSvbk v) := rw_bit _ _
theorem wrIe (v : Byte) : Statement (.wrIe v) := rw_bit _ _
theorem wrHram (addr : Addr) (v : Byte) : Statement (.wrHram addr v) := rw_bit _ _
theorem wrIo (addr : Addr) (v : Byte) : Statement (.wrIo addr v) := rw_bit _ _
theorem wrOam (addr : Addr) (v : Byte) : Statement (.wrOam addr v) := rw_bit _ _
theorem wrUnused (addr : Addr) (v : Byte) : Statement (.wrUnused addr v) := rw_bit _ _
theorem wrEcho1 (addr : Addr) (v : Byte) : Statement (.wrEcho1 addr v) := rw_bit _ _
theorem wrEcho0 (addr : Addr) (v : Byte) : Statement (.wrEcho0 addr v) := rw_bit _ _
theorem wrWramx (addr : Addr) (v : Byte) : Statement (.wrWramx addr v) := rw_bit _ _
theorem wrWram0 (addr : Addr) (v : Byte) : Statement (.wrWram0 addr v) := rw_bit _ _
theorem wrXram (addr : Addr) (v : Byte) : Statement (.wrXram addr v) := rw_bit _ _
theorem wrVram (addr : Addr) (v : Byte) : Statement (.wrVram addr v) := rw_bit _ _
theorem wrRom (addr : Addr) (v : Byte) : Statement (.wrRom addr v) := rw_bit _ _
theorem rdDiv : Statement (.rdDiv) := rw_bit _ _
theorem rdTima : Statement (.rdTima) := rw_bit _ _
theorem rdTma : Statement (.rdTma) := rw_bit _ _
theorem rdTac : Statement (.rdTac) := rw_bit _ _
theorem rdIf : Statement (.rdIf) := rw_bit _ _
theorem rdLcdc : Statement (.rdLcdc) := rw_bit _ _
theorem rdStat : Statement (.rdStat) := rw_bit _ _
theorem rdLy : Statement (.rdLy) := rw_bit _ _
theorem rdLyc : Statement (.rdLyc) := rw_bit _ _
theorem rdIe : Statement (.rdIe) := rw_bit _ _
theorem rdHram (addr : Addr) : Statement (.rdHram addr) := rw_bit _ _
theorem rdIo (addr : Addr) : Statement (.rdIo addr) := rw_bit _ _
theorem rdOam (addr : Addr) : Statement (.rdOam addr) := rw_bit _ _
theorem rdUnused (addr : Addr) : Statement (.rdUnused addr) := rw_bit _ _
theorem rdEcho1 (addr : Addr) : Statement (.rdEcho1 addr) := rw_bit _ _
theorem rdEcho0 (addr : Addr) : Statement (.rdEcho0 addr) := rw_bit _ _
theorem rdWramx (addr : Addr) : Statement (.rdWramx addr) := rw_bit _ _
theorem rdWram0 (addr : Addr) : Statement (.rdWram0 addr) := rw_bit _ _
theorem rdXram (addr : Addr) : Statement (.rdXram addr) := rw_bit _ _
theorem rdVram (addr : Addr) : Statement (.rdVram addr) := rw_bit _ _
theorem rdRomx (addr : Addr) : Statement (.rdRomx addr) := rw_bit _ _
theorem rdRom0 (addr : Addr) : Statement (.rdRom0 addr) := rw_bit _ _
theorem tick (n : Nat) : Statement (.tick n) := rfl
theorem irqReq (id : BitVec 3) : Statement (.irqReq id) := rfl
theorem irqAck : Statement (.irqAck) := rfl
theorem brkClr : Statement (.brkClr) := rfl
theorem speedSwitch : Statement (.speedSwitch) := rfl
theorem mbcRombank (n : Nat) : Statement (.mbcRombank n) := rfl
theorem mbcRambank (n : Nat) : Statement (.mbcRambank n) := rfl
theorem mbcRamen (b : Bool) : Statement (.mbcRamen b) := rfl
theorem reset : Statement (.reset) := rfl
theorem loadState (s : Machine.Block) : Statement (.loadState s) := rfl

end Sys2Proof.Laws.PortFormat
end

