-- ==== Sys2Proof/Laws/Step.lean ====
section
/-! SUPPORT. What a step can do, said once: a step that answers a next state either waits or performs one
operation. -/

namespace Sys2Proof.Machine

/-- A word performed to a next state decoded to an operation. -/
theorem performWord_next {w : PortWord} {s t : State} (h : performWord w s = .next t) :
    ∃ i, decode w = .instr i ∧ exec i s = .next t := by
  unfold performWord at h
  cases hd : decode w with
  | instr i => exact ⟨i, rfl, by simpa [hd] using h⟩
  | reject r => simp [hd] at h

/-- A step that answers a next state: nothing was presented and nothing changed, or the oldest word's operation was
performed. -/
theorem step_next {s t : State} (h : step s = .next t) :
    (s.port = [] ∧ t = s) ∨
      ∃ w rest i, s.port = w :: rest ∧ decode w = .instr i ∧ exec i { s with port := rest } = .next t := by
  unfold step at h
  cases hp : s.port with
  | nil => rw [hp] at h; cases h; exact .inl ⟨rfl, rfl⟩
  | cons w rest =>
    rw [hp] at h
    obtain ⟨i, hd, he⟩ := performWord_next h
    exact .inr ⟨w, rest, i, rfl, hd, he⟩

end Sys2Proof.Machine
end

