-- ==== Sys2Proof/Laws/Stores.lean ====
section
/-! SUPPORT. Every operation on a store keeps the canonical form of the memories, and the reset aggregate has it. -/

namespace Sys2Proof.Machine

/-- The size of a store under a configuration (spec/10_state.md R52). -/
def storeSize (cfg : Cfg) : Store → Nat
  | .vram => cfg.numVramBanks * 0x2000
  | .xram => cfg.numRamBanks * 0x2000
  | .wram => cfg.numWramBanks * 0x1000
  | .oam => 0xA0
  | .hram => 0x7F
  | .io => 0x80

/-- The memories are canonical exactly when each store's cells are. -/
theorem memWf_iff (cfg : Cfg) (b : Block) : b.memWf cfg ↔ ∀ st, Memory.wf (storeSize cfg st) (b.storeOf st) := by
  refine ⟨fun ⟨hv, hx, hw, ho, hh, hi⟩ st => ?_, fun h => ⟨h .vram, h .xram, h .wram, h .oam, h .hram, h .io⟩⟩
  cases st <;> assumption

/-- The reset aggregate's memories are canonical. -/
theorem reset_memWf (cfg cfg' : Cfg) (draw : Nat) : (Block.reset cfg' draw).memWf cfg :=
  (memWf_iff cfg _).mpr fun st => by cases st <;> exact Memory.nil_wf _

/-- The cells of a store after a write: the written store has the cell written, every other store is as it was. -/
theorem storeOf_writeByte (b : Block) (st st' : Store) (i : Nat) (v : Byte) :
    (b.writeByte st i v).storeOf st' = if st' = st then (b.storeOf st).write i v else b.storeOf st' := by
  cases st <;> cases st' <;> rfl

/-- A write within its store keeps the canonical form of all memories. -/
theorem writeByte_memWf {cfg : Cfg} {b : Block} {st : Store} {i : Nat} (v : Byte) (h : b.memWf cfg)
    (hi : i < storeSize cfg st) : (b.writeByte st i v).memWf cfg := by
  rw [memWf_iff] at h ⊢
  intro st'
  rw [storeOf_writeByte]
  split
  · next hst => subst hst; exact Memory.write_wf v (h _) hi
  · exact h st'

/-- An entry of the current page table denotes only cells within their store (INV6, INV7). -/
theorem cell_lt_storeSize {cfg : Cfg} {b : Block} (h6 : b.inv6 cfg) (h7 : b.inv7 cfg) (a : Addr) {st : Store} {i : Nat}
    (hc : (b.entryOf a).cell (pageOff a) = some (st, i)) : i < storeSize cfg st := by
  have hoff : pageOff a < 0x1000 := Nat.mod_lt _ (by decide)
  have hram : 1 < cfg.numWramBanks := by unfold Cfg.numWramBanks; split <;> omega
  obtain ⟨_, hw, hv, _, hr⟩ := h7
  have hx : xramMapped cfg b.ramEnabled = true → b.ramBank < cfg.numRamBanks := fun hm => by
    have : 0 < cfg.numRamBanks := by simp [xramMapped] at hm; exact hm.2
    omega
  rw [Block.entryOf, h6] at hc
  have key : ∀ p : Fin 16,
      ((pageMap cfg b.biosMapped b.romBank b.ramBank b.ramEnabled b.wramBank b.vramBank)[p]).cell (pageOff a) =
        some (st, i) → i < storeSize cfg st := by
    intro ⟨p, hp⟩ h
    interval_cases p <;> simp only [pageMap, Fin.getElem_fin, Vector.getElem_mk, List.getElem_toArray,
      List.getElem_cons_zero, List.getElem_cons_succ] at h <;> (try split at h) <;>
      simp only [PageEntry.cell, Option.some.injEq, Prod.mk.injEq, reduceCtorEq] at h <;>
      (obtain ⟨rfl, rfl⟩ := h) <;> simp [storeSize] <;> first | omega | (have := hx ‹_›; omega)
  exact key _ hc

/-- A write through the current page table keeps the canonical form of all memories. -/
theorem tableWrite_memWf {cfg : Cfg} {b : Block} (h6 : b.inv6 cfg) (h7 : b.inv7 cfg) (h : b.memWf cfg) (a : Addr)
    (v : Byte) : (tableWrite b a v).memWf cfg := by
  rcases tableWrite_cases b a v with ⟨st, i, hc, ht⟩ | ⟨_, ht⟩
  · rw [ht]; exact writeByte_memWf v h (cell_lt_storeSize h6 h7 a hc)
  · rw [ht]; exact h

/-- A write of an echo address in page 0xF keeps the canonical form of all memories. -/
theorem echo1_memWf {cfg : Cfg} {b : Block} (h7 : b.inv7 cfg) (h : b.memWf cfg) (a : Addr) (v : Byte) :
    (cellWrite b (echo1Cell cfg b a) v).memWf cfg := by
  have hoff : pageOff a < 0x1000 := Nat.mod_lt _ (by decide)
  have hw := h7.2.1
  unfold echo1Cell
  split
  · exact writeByte_memWf v h (show _ < cfg.numWramBanks * 0x1000 by omega)
  · exact h

end Sys2Proof.Machine
end

