-- ==== Sys2Proof/Tests/Slice0.lean ====
section
/-! SUPPORT. The model's own tests: ill-formed operations refused, words written out from the opcode map, single
operations on small states with the results of spec/95_test_vectors.md, and for every statement with hypotheses a
witness that meets them. -/

namespace Sys2Proof.Tests

open Sys2Proof Sys2Proof.Machine

set_option Elab.async false

/-! ### Helpers -/

/-- `State.reset` with its aggregate changed. -/
def on (f : Block → Block) : State := { State.reset with blk := f State.reset.blk }

/-- A value of a next outcome. -/
def nextOf {α β : Type} (o : Host.Outcome α Fault Refusal) (f : α → β) : Option β :=
  match o with
  | .next t => some (f t)
  | _ => none

/-- `State.reset` under another configuration, with the aggregate RESET gives for it. -/
def under (c : Cfg) : State := { State.reset with cfg := c, blk := Block.reset c 0 }

/-- A field of the next state of an operation. -/
def get {α : Type} (i : Instr) (s : State) (f : State → α) : Option α := nextOf (exec i s) f

/-- The refusal an operation ends in. -/
def refusal (i : Instr) (s : State) : Option Refusal :=
  match exec i s with
  | .refused r => some r
  | _ => none

/-- The LCD just turned on after RESET: line 0, Mode 2 (vector L1, cycle 0). -/
def lcdOnStart (ds : Bool) : State :=
  on fun b => { b with lcdc := 0x80, stat := 0x06, scanlineCounter := if ds then 160 else 80, ds := ds }

/-- Two listed ROM bytes and one boot byte: the images of spec/95_test_vectors.md section 0. -/
def imageCfg : Cfg :=
  { Config.defaultCfg with rom := [(0x0000, 0x00), (0x4000, 0x11), (0xC000, 0x33)], bootRom := [(0x000, 0xB0)] }

/-! ### WellFormed: each check refuses an address outside its row (R103) -/

theorem test_wellFormed_wrHram :
    Instr.wellFormed (.wrHram 0xFF7F 0) = false ∧ Instr.wellFormed (.wrHram 0xFFFF 0) = false ∧ Instr.wellFormed (.wrHram 0xFF80 0) = true ∧ Instr.wellFormed (.wrHram 0xFFFE 0) = true :=
  by decide

theorem test_wellFormed_wrOam :
    Instr.wellFormed (.wrOam 0xFDFF 0) = false ∧ Instr.wellFormed (.wrOam 0xFEA0 0) = false ∧ Instr.wellFormed (.wrOam 0xFE00 0) = true ∧ Instr.wellFormed (.wrOam 0xFE9F 0) = true :=
  by decide

theorem test_wellFormed_wrUnused :
    Instr.wellFormed (.wrUnused 0xFE9F 0) = false ∧ Instr.wellFormed (.wrUnused 0xFF00 0) = false ∧ Instr.wellFormed (.wrUnused 0xFEA0 0) = true ∧ Instr.wellFormed (.wrUnused 0xFEFF 0) = true :=
  by decide

theorem test_wellFormed_wrEcho1 :
    Instr.wellFormed (.wrEcho1 0xEFFF 0) = false ∧ Instr.wellFormed (.wrEcho1 0xFE00 0) = false ∧ Instr.wellFormed (.wrEcho1 0xF000 0) = true ∧ Instr.wellFormed (.wrEcho1 0xFDFF 0) = true :=
  by decide

theorem test_wellFormed_wrEcho0 :
    Instr.wellFormed (.wrEcho0 0xDFFF 0) = false ∧ Instr.wellFormed (.wrEcho0 0xF000 0) = false ∧ Instr.wellFormed (.wrEcho0 0xE000 0) = true ∧ Instr.wellFormed (.wrEcho0 0xEFFF 0) = true :=
  by decide

theorem test_wellFormed_wrWramx :
    Instr.wellFormed (.wrWramx 0xCFFF 0) = false ∧ Instr.wellFormed (.wrWramx 0xE000 0) = false ∧ Instr.wellFormed (.wrWramx 0xD000 0) = true ∧ Instr.wellFormed (.wrWramx 0xDFFF 0) = true :=
  by decide

theorem test_wellFormed_wrWram0 :
    Instr.wellFormed (.wrWram0 0xBFFF 0) = false ∧ Instr.wellFormed (.wrWram0 0xD000 0) = false ∧ Instr.wellFormed (.wrWram0 0xC000 0) = true ∧ Instr.wellFormed (.wrWram0 0xCFFF 0) = true :=
  by decide

theorem test_wellFormed_wrXram :
    Instr.wellFormed (.wrXram 0x9FFF 0) = false ∧ Instr.wellFormed (.wrXram 0xC000 0) = false ∧ Instr.wellFormed (.wrXram 0xA000 0) = true ∧ Instr.wellFormed (.wrXram 0xBFFF 0) = true :=
  by decide

theorem test_wellFormed_wrVram :
    Instr.wellFormed (.wrVram 0x7FFF 0) = false ∧ Instr.wellFormed (.wrVram 0xA000 0) = false ∧ Instr.wellFormed (.wrVram 0x8000 0) = true ∧ Instr.wellFormed (.wrVram 0x9FFF 0) = true :=
  by decide

theorem test_wellFormed_wrRom :
    Instr.wellFormed (.wrRom 0x8000 0) = false ∧ Instr.wellFormed (.wrRom 0x0000 0) = true ∧ Instr.wellFormed (.wrRom 0x7FFF 0) = true :=
  by decide

theorem test_wellFormed_rdHram :
    Instr.wellFormed (.rdHram 0xFF7F) = false ∧ Instr.wellFormed (.rdHram 0xFFFF) = false ∧ Instr.wellFormed (.rdHram 0xFF80) = true ∧ Instr.wellFormed (.rdHram 0xFFFE) = true :=
  by decide

theorem test_wellFormed_rdOam :
    Instr.wellFormed (.rdOam 0xFDFF) = false ∧ Instr.wellFormed (.rdOam 0xFEA0) = false ∧ Instr.wellFormed (.rdOam 0xFE00) = true ∧ Instr.wellFormed (.rdOam 0xFE9F) = true :=
  by decide

theorem test_wellFormed_rdUnused :
    Instr.wellFormed (.rdUnused 0xFE9F) = false ∧ Instr.wellFormed (.rdUnused 0xFF00) = false ∧ Instr.wellFormed (.rdUnused 0xFEA0) = true ∧ Instr.wellFormed (.rdUnused 0xFEFF) = true :=
  by decide

theorem test_wellFormed_rdEcho1 :
    Instr.wellFormed (.rdEcho1 0xEFFF) = false ∧ Instr.wellFormed (.rdEcho1 0xFE00) = false ∧ Instr.wellFormed (.rdEcho1 0xF000) = true ∧ Instr.wellFormed (.rdEcho1 0xFDFF) = true :=
  by decide

theorem test_wellFormed_rdEcho0 :
    Instr.wellFormed (.rdEcho0 0xDFFF) = false ∧ Instr.wellFormed (.rdEcho0 0xF000) = false ∧ Instr.wellFormed (.rdEcho0 0xE000) = true ∧ Instr.wellFormed (.rdEcho0 0xEFFF) = true :=
  by decide

theorem test_wellFormed_rdWramx :
    Instr.wellFormed (.rdWramx 0xCFFF) = false ∧ Instr.wellFormed (.rdWramx 0xE000) = false ∧ Instr.wellFormed (.rdWramx 0xD000) = true ∧ Instr.wellFormed (.rdWramx 0xDFFF) = true :=
  by decide

theorem test_wellFormed_rdWram0 :
    Instr.wellFormed (.rdWram0 0xBFFF) = false ∧ Instr.wellFormed (.rdWram0 0xD000) = false ∧ Instr.wellFormed (.rdWram0 0xC000) = true ∧ Instr.wellFormed (.rdWram0 0xCFFF) = true :=
  by decide

theorem test_wellFormed_rdXram :
    Instr.wellFormed (.rdXram 0x9FFF) = false ∧ Instr.wellFormed (.rdXram 0xC000) = false ∧ Instr.wellFormed (.rdXram 0xA000) = true ∧ Instr.wellFormed (.rdXram 0xBFFF) = true :=
  by decide

theorem test_wellFormed_rdVram :
    Instr.wellFormed (.rdVram 0x7FFF) = false ∧ Instr.wellFormed (.rdVram 0xA000) = false ∧ Instr.wellFormed (.rdVram 0x8000) = true ∧ Instr.wellFormed (.rdVram 0x9FFF) = true :=
  by decide

theorem test_wellFormed_rdRomx :
    Instr.wellFormed (.rdRomx 0x3FFF) = false ∧ Instr.wellFormed (.rdRomx 0x8000) = false ∧ Instr.wellFormed (.rdRomx 0x4000) = true ∧ Instr.wellFormed (.rdRomx 0x7FFF) = true :=
  by decide

theorem test_wellFormed_rdRom0 :
    Instr.wellFormed (.rdRom0 0x4000) = false ∧ Instr.wellFormed (.rdRom0 0x0000) = true ∧ Instr.wellFormed (.rdRom0 0x3FFF) = true :=
  by decide

theorem test_wellFormed_wrIo :
    Instr.wellFormed (.wrIo 0xFF04 0) = false ∧ Instr.wellFormed (.wrIo 0xFF50 0) = false ∧
    Instr.wellFormed (.wrIo 0xFF80 0) = false ∧ Instr.wellFormed (.wrIo 0xFEFF 0) = false ∧
    Instr.wellFormed (.wrIo 0xFF00 0) = true :=
  by decide

theorem test_wellFormed_rdIo :
    Instr.wellFormed (.rdIo 0xFF04) = false ∧ Instr.wellFormed (.rdIo 0xFF80) = false ∧
    Instr.wellFormed (.rdIo 0xFEFF) = false ∧ Instr.wellFormed (.rdIo 0xFF50) = true :=
  by decide

/-! ### Decode: words written out from R103 and R105, one or more for every operation -/

theorem test_decode_singleWrites :
    decode (.bus 0x1FF04 0x5A) = .instr (.wrDiv 0x5A) ∧
    decode (.bus 0x1FF05 0xFC) = .instr (.wrTima 0xFC) ∧
    decode (.bus 0x1FF06 0xFC) = .instr (.wrTma 0xFC) ∧
    decode (.bus 0x1FF07 0x05) = .instr (.wrTac 0x05) ∧
    decode (.bus 0x1FF0F 0x16) = .instr (.wrIf 0x16) ∧
    decode (.bus 0x1FF40 0x80) = .instr (.wrLcdc 0x80) ∧
    decode (.bus 0x1FF41 0x40) = .instr (.wrStat 0x40) ∧
    decode (.bus 0x1FF44 0x55) = .instr (.wrLy 0x55) ∧
    decode (.bus 0x1FF45 0x02) = .instr (.wrLyc 0x02) ∧
    decode (.bus 0x1FF4F 0xFF) = .instr (.wrVbk 0xFF) ∧
    decode (.bus 0x1FF50 0x01) = .instr (.wrBootoff 0x01) ∧
    decode (.bus 0x1FF70 0x0B) = .instr (.wrSvbk 0x0B) ∧
    decode (.bus 0x1FFFF 0x04) = .instr (.wrIe 0x04) :=
  by decide

/-- The boundaries of vector B9. -/
theorem test_decode_rangeWrites :
    decode (.bus 0x1FFFD 0x5A) = .instr (.wrHram 0xFFFD 0x5A) ∧
    decode (.bus 0x1FF80 0x5A) = .instr (.wrHram 0xFF80 0x5A) ∧
    decode (.bus 0x1FF03 0x5A) = .instr (.wrIo 0xFF03 0x5A) ∧
    decode (.bus 0x1FF08 0x5A) = .instr (.wrIo 0xFF08 0x5A) ∧
    decode (.bus 0x1FF7F 0x5A) = .instr (.wrIo 0xFF7F 0x5A) ∧
    decode (.bus 0x1FE00 0x5A) = .instr (.wrOam 0xFE00 0x5A) ∧
    decode (.bus 0x1FE7F 0x5A) = .instr (.wrOam 0xFE7F 0x5A) ∧
    decode (.bus 0x1FE80 0x5A) = .instr (.wrOam 0xFE80 0x5A) ∧
    decode (.bus 0x1FE9F 0x5A) = .instr (.wrOam 0xFE9F 0x5A) ∧
    decode (.bus 0x1FEA0 0x5A) = .instr (.wrUnused 0xFEA0 0x5A) ∧
    decode (.bus 0x1FEFF 0x5A) = .instr (.wrUnused 0xFEFF 0x5A) ∧
    decode (.bus 0x1F000 0x5A) = .instr (.wrEcho1 0xF000 0x5A) ∧
    decode (.bus 0x1FDFF 0x5A) = .instr (.wrEcho1 0xFDFF 0x5A) ∧
    decode (.bus 0x1E000 0x5A) = .instr (.wrEcho0 0xE000 0x5A) ∧
    decode (.bus 0x1EFFF 0x5A) = .instr (.wrEcho0 0xEFFF 0x5A) ∧
    decode (.bus 0x1D000 0x5A) = .instr (.wrWramx 0xD000 0x5A) ∧
    decode (.bus 0x1DFFF 0x5A) = .instr (.wrWramx 0xDFFF 0x5A) ∧
    decode (.bus 0x1C000 0x5A) = .instr (.wrWram0 0xC000 0x5A) ∧
    decode (.bus 0x1CFFF 0x5A) = .instr (.wrWram0 0xCFFF 0x5A) ∧
    decode (.bus 0x1A010 0x5A) = .instr (.wrXram 0xA010 0x5A) ∧
    decode (.bus 0x1BFFF 0x5A) = .instr (.wrXram 0xBFFF 0x5A) ∧
    decode (.bus 0x18000 0x5A) = .instr (.wrVram 0x8000 0x5A) ∧
    decode (.bus 0x19FFF 0x5A) = .instr (.wrVram 0x9FFF 0x5A) ∧
    decode (.bus 0x12100 0x5A) = .instr (.wrRom 0x2100 0x5A) ∧
    decode (.bus 0x17FFF 0x5A) = .instr (.wrRom 0x7FFF 0x5A) :=
  by decide

theorem test_decode_singleReads :
    decode (.bus 0x0FF04 0) = .instr .rdDiv ∧
    decode (.bus 0x0FF05 0) = .instr .rdTima ∧
    decode (.bus 0x0FF06 0) = .instr .rdTma ∧
    decode (.bus 0x0FF07 0) = .instr .rdTac ∧
    decode (.bus 0x0FF0F 0) = .instr .rdIf ∧
    decode (.bus 0x0FF40 0) = .instr .rdLcdc ∧
    decode (.bus 0x0FF41 0) = .instr .rdStat ∧
    decode (.bus 0x0FF44 0) = .instr .rdLy ∧
    decode (.bus 0x0FF45 0) = .instr .rdLyc ∧
    decode (.bus 0x0FFFF 0) = .instr .rdIe :=
  by decide

/-- The boundaries of vector B9. -/
theorem test_decode_rangeReads :
    decode (.bus 0x0FFFC 0) = .instr (.rdHram 0xFFFC) ∧
    decode (.bus 0x0FF80 0) = .instr (.rdHram 0xFF80) ∧
    decode (.bus 0x0FF03 0) = .instr (.rdIo 0xFF03) ∧
    decode (.bus 0x0FF4F 0) = .instr (.rdIo 0xFF4F) ∧
    decode (.bus 0x0FF50 0) = .instr (.rdIo 0xFF50) ∧
    decode (.bus 0x0FF70 0) = .instr (.rdIo 0xFF70) ∧
    decode (.bus 0x0FF7F 0) = .instr (.rdIo 0xFF7F) ∧
    decode (.bus 0x0FE00 0) = .instr (.rdOam 0xFE00) ∧
    decode (.bus 0x0FE7F 0) = .instr (.rdOam 0xFE7F) ∧
    decode (.bus 0x0FE80 0) = .instr (.rdOam 0xFE80) ∧
    decode (.bus 0x0FE9F 0) = .instr (.rdOam 0xFE9F) ∧
    decode (.bus 0x0FEA0 0) = .instr (.rdUnused 0xFEA0) ∧
    decode (.bus 0x0FEFF 0) = .instr (.rdUnused 0xFEFF) ∧
    decode (.bus 0x0F000 0) = .instr (.rdEcho1 0xF000) ∧
    decode (.bus 0x0FDFF 0) = .instr (.rdEcho1 0xFDFF) ∧
    decode (.bus 0x0E000 0) = .instr (.rdEcho0 0xE000) ∧
    decode (.bus 0x0EFFF 0) = .instr (.rdEcho0 0xEFFF) ∧
    decode (.bus 0x0D000 0) = .instr (.rdWramx 0xD000) ∧
    decode (.bus 0x0DFFF 0) = .instr (.rdWramx 0xDFFF) ∧
    decode (.bus 0x0C000 0) = .instr (.rdWram0 0xC000) ∧
    decode (.bus 0x0CFFF 0) = .instr (.rdWram0 0xCFFF) ∧
    decode (.bus 0x0A000 0) = .instr (.rdXram 0xA000) ∧
    decode (.bus 0x0BFFF 0) = .instr (.rdXram 0xBFFF) ∧
    decode (.bus 0x08000 0) = .instr (.rdVram 0x8000) ∧
    decode (.bus 0x09FFF 0) = .instr (.rdVram 0x9FFF) ∧
    decode (.bus 0x04123 0) = .instr (.rdRomx 0x4123) ∧
    decode (.bus 0x07FFF 0) = .instr (.rdRomx 0x7FFF) ∧
    decode (.bus 0x000FE 0) = .instr (.rdRom0 0x00FE) ∧
    decode (.bus 0x03FFF 0) = .instr (.rdRom0 0x3FFF) :=
  by decide

theorem test_decode_events :
    decode (.evt 0x0 (.nat 64)) = .instr (.tick 64) ∧ decode (.evt 0x1 (.id 2)) = .instr (.irqReq 2) ∧
    decode (.evt 0x2 .none) = .instr .irqAck ∧ decode (.evt 0x3 .none) = .instr .brkClr ∧
    decode (.evt 0x4 .none) = .instr .speedSwitch ∧ decode (.evt 0x5 (.nat 5)) = .instr (.mbcRombank 5) ∧
    decode (.evt 0x6 (.nat 2)) = .instr (.mbcRambank 2) ∧ decode (.evt 0x7 (.bit true)) = .instr (.mbcRamen true) ∧
    decode (.evt 0x8 .none) = .instr .reset ∧
    decode (.evt 0x9 (.aggregate State.reset.blk)) = .instr (.loadState State.reset.blk) :=
  by decide

theorem test_decode_reserved :
    decode (.evt 0xA .none) = .reject .reservedSelector ∧ decode (.evt 0xF (.nat 3)) = .reject .reservedSelector ∧
    decode (.evt 0x0 .none) = .reject .operandKind ∧ decode (.evt 0x9 (.nat 0)) = .reject .operandKind :=
  by decide

theorem test_decodeTableWord :
    decodeTableWord 24 0x1FF07 = some (.wrTac 0) ∧ decodeTableWord 24 0x04000 = some (.rdRomx 0x4000) ∧
    decodeTableWord 8 0x1 = some (.irqReq 0) ∧ decodeTableWord 8 0xA = none ∧ decodeTableWord 24 0x20000 = none :=
  by decide

/-! ### Operations on small states; each names the vector of spec/95_test_vectors.md it takes its result from -/

/-- T8: at cycle 65836 DIV reads 0x01. -/
theorem test_rdDiv_65836 :
    get .rdDiv (on fun b => { b with cycle := 65836 }) (·.out.reply) = some (.rdata 0x01) :=
  by decide

/-- T8: the value written is ignored. -/
theorem test_wrDiv_latches :
    get (.wrDiv 0x5A) (on fun b => { b with cycle := 65836 }) (·.blk.lastDividerCycle) = some 65836 :=
  by decide

/-- T3 as one lazy update: three overflows in 1000 cycles. -/
theorem test_rdTima_overflows :
    get .rdTima (on fun b => { b with cycle := 1000, tma := 0xF0, tima := 0xF0, tac := 0x05 })
      (fun t => (t.out.reply, t.blk.ifr, t.blk.lastTimerCycle)) = some (.rdata 0xFE, 0x04, 992) :=
  by decide +kernel

/-- T6. -/
theorem test_wrTima_keepsPhase :
    get (.wrTima 0x20) (on fun b => { b with cycle := 10, tac := 0x05 })
      (fun t => (t.blk.tima, t.blk.lastTimerCycle, t.blk.timerCounter t.cfg)) = some (0x20, 0, some 3574) :=
  by decide +kernel

/-- T13: the overflow at cycle 16 reloads the old TMA. -/
theorem test_wrTma_oldReload :
    get (.wrTma 0x20) (on fun b => { b with cycle := 16, tma := 0x10, tima := 0xFF, tac := 0x05 })
      (fun t => (t.blk.tima, t.blk.tma, t.blk.ifr)) = some (0x10, 0x20, 0x04) :=
  by decide +kernel

/-- T5. -/
theorem test_wrTac_relatches :
    get (.wrTac 0x06) (on fun b => { b with cycle := 40, tima := 0x02, lastTimerCycle := 32, tac := 0x05 })
      (fun t => (t.blk.tima, t.blk.lastTimerCycle, t.blk.timerCounter t.cfg)) = some (0x02, 40, some 16256) :=
  by decide +kernel

/-- T14. -/
theorem test_rdTac_allBits :
    get .rdTac (on fun b => { b with tac := 0xFD }) (·.out.reply) = some (.rdata 0xFD) :=
  by decide

/-- R179. -/
theorem test_rdTma : get .rdTma (on fun b => { b with tma := 0x80 }) (·.out.reply) = some (.rdata 0x80) := by decide

/-- T11: the cycle of the overflow reloads, requests and breaks. -/
theorem test_tick_overflow :
    get (.tick 1) (on fun b => { b with cycle := 15, ie := 0x04, tma := 0x80, tima := 0xFF, tac := 0x05 })
      (fun t => (t.blk.tima, t.blk.ifr, t.blk.brk, t.blk.irqSelect)) = some (0x80, 0x04, true, some .timer) :=
  by decide +kernel

/-- L1, cycle 80. -/
theorem test_tick_mode2To3 :
    get (.tick 1) (on fun b => { b with lcdc := 0x80, stat := 0x06, scanlineCounter := 1 })
      (fun t => (t.blk.stat, t.blk.scanlineCounter, t.out.pulses)) = some (0x07, 172, [.hookScanlineStart]) :=
  by decide +kernel

/-- L14, cycle 65664. -/
theorem test_lcdStep_vblank :
    ((lcdStep { Block.reset Config.defaultCfg 0 with lcdc := 0x80, ly := 143, stat := 0x10, ie := 0x03, scanlineCounter := 1 }).1.ifr,
      (lcdStep { Block.reset Config.defaultCfg 0 with lcdc := 0x80, ly := 143, stat := 0x10, ie := 0x03, scanlineCounter := 1 }).1.stat) =
    (0x03, 0x11) :=
  by decide +kernel

/-- L1, cycle 69768. -/
theorem test_lcdStep_line153 :
    ((lcdStep { Block.reset Config.defaultCfg 0 with lcdc := 0x80, ly := 152, stat := 0x01, scanlineCounter := 1 }).1.ly,
      (lcdStep { Block.reset Config.defaultCfg 0 with lcdc := 0x80, ly := 152, stat := 0x01, scanlineCounter := 1 }).1.scanlineCounter) =
    (153, 912) :=
  by decide +kernel

/-- L16. -/
theorem test_rdLcdc :
    get .rdLcdc (on fun b => { b with lcdc := 0x7F }) (·.out.reply) = some (.rdata 0x7F) :=
  by decide

/-- L7: turning off forces LY to 0, a match transition. -/
theorem test_wrLcdc_off :
    get (.wrLcdc 0x00) (on fun b => { b with lcdc := 0x80, ly := 2, stat := 0x43, scanlineCounter := 164 })
      (fun t => (t.blk.ly, t.blk.stat, t.blk.ifr, t.blk.offCounter, t.blk.scanlineCounter)) =
    some (0, 0x44, 0x02, 70680, 164) :=
  by decide +kernel

/-- L9. -/
theorem test_wrLcdc_on :
    get (.wrLcdc 0x80) (on fun b => { b with ds := true }) (fun t => (t.blk.stat, t.blk.scanlineCounter)) = some (0x06, 160) :=
  by decide +kernel

/-- L10. -/
theorem test_wrStat_mask :
    get (.wrStat 0xFF) State.reset (fun t => (t.blk.stat, t.blk.ifr)) = some (0xFC, 0x00) :=
  by decide

/-- R1. -/
theorem test_rdStat : get .rdStat State.reset (·.out.reply) = some (.rdata 0x04) := by decide

/-- L11. -/
theorem test_wrLy_dropped : get (.wrLy 0x55) (on fun b => { b with ly := 1 }) (·.blk.ly) = some 0x01 := by decide

/-- L11. -/
theorem test_rdLy : get .rdLy (on fun b => { b with ly := 1 }) (·.out.reply) = some (.rdata 0x01) := by decide

/-- L6: a write that creates a match requests at once. -/
theorem test_wrLyc_match :
    get (.wrLyc 0x06) (on fun b => { b with ly := 6, lyc := 5, stat := 0x42 }) (fun t => (t.blk.stat, t.blk.ifr)) =
    some (0x46, 0x02) :=
  by decide +kernel

/-- L6: already matched. -/
theorem test_wrLyc_noRepeat :
    get (.wrLyc 0x06) (on fun b => { b with ly := 6, lyc := 6, stat := 0x46 }) (fun t => (t.blk.stat, t.blk.ifr)) =
    some (0x46, 0x00) :=
  by decide +kernel

/-- L15. -/
theorem test_rdLyc : get .rdLyc (on fun b => { b with lyc := 0xC8 }) (·.out.reply) = some (.rdata 0xC8) := by decide

/-- I2. -/
theorem test_wrIf_break :
    get (.wrIf 0x16) (on fun b => { b with ie := 0x1F }) (fun t => (t.blk.brk, t.blk.irqSelect)) = some (true, some .stat) :=
  by decide

/-- I4. -/
theorem test_rdIf_highBits :
    get .rdIf (on fun b => { b with ifr := 0xE0 }) (·.out.reply) = some (.rdata 0xE0) :=
  by decide

/-- I3. -/
theorem test_wrIe_break : get (.wrIe 0x01) (on fun b => { b with ifr := 0x01 }) (·.blk.brk) = some true := by decide

/-- R1. -/
theorem test_rdIe : get .rdIe State.reset (·.out.reply) = some (.rdata 0x00) := by decide

/-- I5: the break test is on the whole of IF and IE. -/
theorem test_irqReq_wholeTest :
    get (.irqReq 3) (on fun b => { b with ie := 0x01, ifr := 0x01 }) (fun t => (t.blk.ifr, t.blk.brk)) = some (0x09, true) :=
  by decide

/-- I9. -/
theorem test_irqReq_reserved : refusal (.irqReq 5) State.reset = some .reservedEvent := by decide

/-- I6. -/
theorem test_irqAck_priority :
    get .irqAck (on fun b => { b with ie := 0x14, ifr := 0x1F }) (fun t => (t.out.reply, t.blk.ifr)) =
    some (.ack (some (.timer, 0x0050)), 0x1B) :=
  by decide

/-- I4. -/
theorem test_irqAck_none :
    get .irqAck (on fun b => { b with ie := 0xE0, ifr := 0xE0 }) (fun t => (t.out.reply, t.blk.ifr)) = some (.ack none, 0xE0) :=
  by decide

/-- I8. -/
theorem test_brkClr_pending :
    get .brkClr (on fun b => { b with ie := 0x04, ifr := 0x04, brk := true }) (fun t => (t.blk.brk, t.blk.irqPending)) =
    some (false, true) :=
  by decide

/-- B1: the overlay. -/
theorem test_rdRom0_boot :
    get (.rdRom0 0x0000) { under imageCfg with out := Outputs.quiet } (·.out.reply) = some (.rdata 0xB0) :=
  by decide

/-- B2: value 0 also unmaps. -/
theorem test_wrBootoff_unmaps :
    get (.wrBootoff 0x00) (under imageCfg) (fun t => (t.blk.biosMapped, tableRead t.cfg t.blk 0x0000)) = some (false, 0x00) :=
  by decide +kernel

/-- B1. -/
theorem test_rdRomx_bank1 :
    get (.rdRomx 0x4000) (under imageCfg) (·.out.reply) = some (.rdata 0x11) :=
  by decide +kernel

/-- B3. -/
theorem test_mbcRombank_3 :
    get (.mbcRombank 3) (under imageCfg) (fun t => tableRead t.cfg t.blk 0x4000) = some 0x33 :=
  by decide +kernel

/-- B3. -/
theorem test_mbcRombank_range : refusal (.mbcRombank 4) State.reset = some .reservedEvent := by decide

/-- B3. -/
theorem test_wrRom_pulse :
    get (.wrRom 0x2100 0x05) State.reset (·.out.pulses) = some [.mbcWrite 0x2100 0x05] :=
  by decide

/-- B4: value 0 selects bank 1. -/
theorem test_wrSvbk_zero :
    get (.wrSvbk 0x00) (on fun b => { b with wramBank := 3 }) (·.blk.wramBank) = some 1 :=
  by decide

/-- B4. -/
theorem test_wrSvbk_field :
    get (.wrSvbk 0x0B) State.reset (fun t => (t.blk.wramBank, t.blk.svbk)) = some (3, 0x0B) :=
  by decide

/-- B5. -/
theorem test_wrVbk_bit :
    get (.wrVbk 0xFE) (on fun b => { b with vramBank := 1 }) (fun t => (t.blk.vramBank, t.blk.vbk)) = some (0, 0xFE) :=
  by decide

/-- B5. -/
theorem test_rdVram_bank1 :
    get (.rdVram 0x8000) (on fun b => mapBanks Config.defaultCfg { b with vramBank := 1, vram := [(0x0000, 0xAA), (0x2000, 0xBB)] })
      (·.out.reply) = some (.rdata 0xBB) :=
  by decide +kernel

/-- B5. -/
theorem test_wrVram_bank0 :
    get (.wrVram 0x8000 0xAA) State.reset (·.blk.vram) = some [(0x0000, 0xAA)] :=
  by decide +kernel

/-- B6. -/
theorem test_rdXram_disabled :
    get (.rdXram 0xA000) State.reset (·.out.reply) = some (.rdata 0xFF) :=
  by decide +kernel

/-- P3, step 12. -/
theorem test_wrXram_bank2 :
    get (.wrXram 0xA010 0x5A) (on fun b => mapBanks Config.defaultCfg { b with ramBank := 2, ramEnabled := true })
      (·.blk.xram) = some [(0x4010, 0x5A)] :=
  by decide +kernel

/-- B6. -/
theorem test_wrXram_dropped : get (.wrXram 0xA000 0x77) State.reset (·.blk.xram) = some [] := by decide +kernel

/-- B6. -/
theorem test_mbcRamen_maps :
    get (.mbcRamen true) (on fun b => { b with xram := [(0x0000, 0x77)] }) (fun t => tableRead t.cfg t.blk 0xA000) = some 0x77 :=
  by decide +kernel

/-- R161: four banks. -/
theorem test_mbcRambank_range :
    get (.mbcRambank 3) State.reset (·.blk.ramBank) = some 3 ∧ refusal (.mbcRambank 4) State.reset = some .reservedEvent :=
  by decide

/-- B4. -/
theorem test_wrWram0 :
    get (.wrWram0 0xC000 0x11) State.reset (·.blk.wram) = some [(0x0000, 0x11)] :=
  by decide +kernel

/-- B4. -/
theorem test_rdWram0 :
    get (.rdWram0 0xC000) (on fun b => { b with wram := [(0x0000, 0x11)] }) (·.out.reply) = some (.rdata 0x11) :=
  by decide +kernel

/-- B4. -/
theorem test_wrWramx_bank3 :
    get (.wrWramx 0xD000 0x33) (on fun b => mapBanks Config.defaultCfg { b with wramBank := 3 }) (·.blk.wram) =
    some [(0x3000, 0x33)] :=
  by decide +kernel

/-- B4. -/
theorem test_rdWramx :
    get (.rdWramx 0xDDFF) (on fun b => { b with wram := [(0x1DFF, 0x44)] }) (·.out.reply) = some (.rdata 0x44) :=
  by decide +kernel

/-- B4. -/
theorem test_rdEcho0 :
    get (.rdEcho0 0xE000) (on fun b => { b with wram := [(0x0000, 0x11)] }) (·.out.reply) = some (.rdata 0x11) :=
  by decide +kernel

/-- B4. -/
theorem test_wrEcho0_openBus :
    get (.wrEcho0 0xE000 0x99) (under { Config.defaultCfg with echoMode := .openBus }) (·.blk.wram) = some [] :=
  by decide +kernel

/-- B4. -/
theorem test_rdEcho1_bank3 :
    get (.rdEcho1 0xF000) (on fun b => { b with wramBank := 3, wram := [(0x3000, 0x33)] }) (·.out.reply) = some (.rdata 0x33) :=
  by decide +kernel

/-- B4. -/
theorem test_wrEcho1 :
    get (.wrEcho1 0xFDFF 0x44) State.reset (·.blk.wram) = some [(0x1DFF, 0x44)] :=
  by decide +kernel

/-- B7. -/
theorem test_wrOam_last : get (.wrOam 0xFE9F 0x9F) State.reset (·.blk.oam) = some [(0x9F, 0x9F)] := by decide

/-- B7. -/
theorem test_rdOam_last :
    get (.rdOam 0xFE9F) (on fun b => { b with oam := [(0x9F, 0x9F)] }) (·.out.reply) = some (.rdata 0x9F) :=
  by decide

/-- B7. -/
theorem test_unused :
    get (.rdUnused 0xFEA0) State.reset (·.out.reply) = some (.rdata 0xFF) ∧
    get (.wrUnused 0xFEA0 0x12) State.reset (·.blk.oam) = some [] :=
  by decide

/-- B8. -/
theorem test_wrHram_last : get (.wrHram 0xFFFE 0xFE) State.reset (·.blk.hram) = some [(0x7E, 0xFE)] := by decide

/-- B8. -/
theorem test_rdHram :
    get (.rdHram 0xFF80) (on fun b => { b with hram := [(0x00, 0x80)] }) (·.out.reply) = some (.rdata 0x80) :=
  by decide

/-- B8. -/
theorem test_wrIo_plain : get (.wrIo 0xFF03 0x5A) State.reset (·.blk.io) = some [(0x03, 0x5A)] := by decide +kernel

/-- B8. -/
theorem test_wrIo_delegated :
    get (.wrIo 0xFF46 0xC0) State.reset (fun t => (t.out.pulses, t.blk.io)) = some ([.extIoWrite 0xFF46 0xC0], []) :=
  by decide +kernel

/-- B8. -/
theorem test_rdIo_plain :
    get (.rdIo 0xFF03) (on fun b => { b with io := [(0x03, 0x5A)] }) (·.out.reply) = some (.rdata 0x5A) :=
  by decide +kernel

/-- B4. -/
theorem test_rdIo_svbk :
    get (.rdIo 0xFF70) (on fun b => { b with svbk := 0x0B }) (·.out.reply) = some (.rdata 0x0B) :=
  by decide +kernel

/-- L9: the running phase is not rescaled. -/
theorem test_speedSwitch :
    get .speedSwitch (on fun b => { b with cycle := 40, lcdc := 0x80, scanlineCounter := 40, stat := 0x06 })
      (fun t => (t.blk.ds, t.blk.lastTimerCycle, t.blk.scanlineCounter)) = some (true, 40, 40) :=
  by decide +kernel

/-- S6. -/
theorem test_speedSwitch_classic :
    refusal .speedSwitch (under { Config.defaultCfg with cgb := false }) = some .reservedEvent :=
  by decide

/-- S1. -/
theorem test_cyclesToEvent :
    cyclesToEvent Config.defaultCfg none none State.reset.blk = 70680 ∧
    cyclesToEvent Config.defaultCfg none none (lcdOnStart false).blk = 80 :=
  by decide

/-- R1. -/
theorem test_reset :
    get .reset (on fun b => { b with cycle := 5, tima := 7, biosMapped := false, ie := 0x1F }) (fun t => (t.blk.cycle, t.blk.tima, t.blk.biosMapped, t.blk.ie)) =
    some (0, 0x00, true, 0x00) :=
  by decide

/-- R2. -/
theorem test_loadState :
    get (.loadState { State.reset.blk with cycle := 1000, lastDividerCycle := 100, lastTimerCycle := 990, tac := 0x05, tima := 0x07 })
      State.reset (fun t => (t.blk.lastTimerCycle, t.blk.lastDividerCycle, t.blk.divByte, t.blk.timerCounter t.cfg)) =
    some (1000, 232, 0x03, some 3984) :=
  by decide +kernel

/-- R3. -/
theorem test_loadState_bad :
    refusal (.loadState { State.reset.blk with wramBank := 0 }) State.reset = some .badSnapshot :=
  by decide +kernel

/-- R45, INV8: a BOOTOFF write, of value 0 too, holds for the rest of the session, whatever image is loaded. -/
theorem test_loadState_overlayAfterBootoff :
    nextOf (exec (.wrBootoff 0x00) State.reset) (refusal (.loadState State.reset.blk)) = some (some .badSnapshot) :=
  by decide +kernel

/-- P1, steps 8 to 11. -/
theorem test_dispatch :
    nextOf (dispatch { ime := true, halted := false, sp := 0xFFFE, pc := 0x0150, owed := 0 }
      (on fun b => { b with ie := 0x04, ifr := 0x04 })) (fun r => (r.1.pc, r.1.sp, r.1.owed, r.2.blk.hram)) =
    some (0x0050, 0xFFFC, 20, [(0x7C, 0x50), (0x7D, 0x01)]) :=
  by decide +kernel

/-- The word placed by `withFetchWord` is the one the next step performs. -/
theorem test_fetchedStep :
    nextOf (step ({ State.reset with port := [busRead 0xFF05] }.withFetchWord 24 0x1FF04))
      (fun t => (t.blk.lastDividerCycle, t.port)) = some (0, [busRead 0xFF05]) :=
  by decide +kernel

/-- Other units that do nothing. -/
def idle : External := ⟨[], 0, false, rfl⟩

/-- An opcode of 4 cycles with its operations, and the address after it. -/
def opcode (ops : List Instr) (pc : Addr) (h : ops.all amongOpcode = true := by decide) : Opcode :=
  ⟨ops, 0, true, false, 0xFFFE, pc, h⟩

/-- Timer interrupts enabled, the CPU at 0x0150 with IME set and these opcodes to execute. -/
def atOpcodes (program : List Opcode) : Loop :=
  { cpu := { ime := true, halted := false, sp := 0xFFFE, pc := 0x0150, owed := 0 }
    st := on fun b => { b with ie := 0x04 }, program := program }

/-- A halted CPU and an interrupt requested only by other units. -/
def asleep (ime : Bool) : Loop :=
  { cpu := { ime := ime, halted := true, sp := 0xFFFE, pc := 0x0150, owed := 20 }
    st := on fun b => { b with ie := 0x08 }, program := [opcode [] 0x0151] }

/-- R321: `brk` ends the chunk of budget 8 after one opcode; one extra opcode of 4 cycles runs, and the dispatch pushes
the address after it. -/
theorem test_quirk_extraOpcode :
    nextOf (iteration ⟨some 8, none, idle, idle⟩ (atOpcodes [opcode [.wrIf 0x04] 0x0152, opcode [] 0x0153, opcode [] 0x0154]))
      (fun r => (r.1.st.blk.cycle, r.1.cpu.pc, r.1.st.blk.hram, r.1.program.length)) =
    some (8, 0x0050, [(0x7C, 0x53), (0x7D, 0x01)], 1) :=
  by decide +kernel

/-- R321: the dispatch evaluates `irq_select` again after the extra opcode. -/
theorem test_quirk_clearsRequest :
    nextOf (iteration ⟨some 8, none, idle, idle⟩ (atOpcodes [opcode [.wrIf 0x04] 0x0152, opcode [.wrIf 0x00] 0x0153]))
      (fun r => (r.1.cpu.pc, r.1.cpu.sp, r.1.cpu.ime)) = some (0x0153, 0xFFFE, true) :=
  by decide +kernel

/-- R362: RESET comes before an iteration, and the iteration runs from the reset state. -/
theorem test_platform_onlyBetweenIterations :
    Agent.cpu.mayIssue .reset = false ∧ Agent.unit.mayIssue (.loadState State.reset.blk) = false ∧
    nextOf (runLoop [⟨[⟨.reset, { (asleep true).cpu with pc := 0x0000, halted := false, owed := 0 }, [opcode [.wrIe 0x01] 0x0001]⟩],
        ⟨some 4, none, idle, idle⟩⟩] (atOpcodes []))
      (fun r => (r.1.st.blk.cycle, r.1.st.blk.ie, r.1.cpu.pc)) = some (4, 0x01, 0x0001) :=
  by decide +kernel

/-- R320, R290: TICK of the budget 8 and the 20 cycles owed, no opcode, then the dispatch; 20 and the 6 DMA cycles are
owed next, and the link flag leaves the loop. -/
theorem test_halt_wakesAndDispatches :
    nextOf (iteration ⟨some 8, none, ⟨[.irqReq 3], 6, true, rfl⟩, idle⟩ (asleep true))
      (fun r => (r.1.st.blk.cycle, r.1.cpu.pc, r.1.cpu.owed, r.2.leave, r.1.program.length)) =
    some (28, 0x0058, 26, true, 1) :=
  by decide +kernel

/-- R320: halt ends whether or not IME = 1. -/
theorem test_halt_wakesWithoutIme :
    nextOf (iteration ⟨some 8, none, ⟨[.irqReq 3], 0, false, rfl⟩, idle⟩ (asleep false))
      (fun r => (r.1.cpu.pc, r.1.cpu.halted, r.1.st.blk.ifr)) = some (0x0150, false, 0x08) :=
  by decide +kernel

/-- R290, R291: the frame ends in a TICK the CPU issued itself; the loop is left after that iteration, whose 4 cycles are
ticked once. -/
theorem test_runLoop_vblankInsideAnOpcode :
    nextOf (runLoop [⟨[], ⟨none, none, idle, idle⟩⟩, ⟨[], ⟨none, none, idle, idle⟩⟩]
        { atOpcodes [opcode [.tick 4] 0x0151, opcode [] 0x0152] with st := on fun b => { b with offCounter := 4 } })
      (fun r => (r.2.retVblank, r.1.st.blk.cycle, r.1.program.length)) = some (true, 4, 1) :=
  by decide +kernel

/-! ### Witnesses: for each statement with hypotheses, states and operands that meet all of them -/

theorem witness_DecodeOfEncodeIsTheOperation :
    Instr.wellFormed (.wrHram 0xFFFE 0xFF) = true ∧ Instr.wellFormed (.rdRomx 0x7FFF) = true ∧
    Instr.wellFormed (.loadState State.reset.blk) = true :=
  by decide

theorem witness_DecodedEventWordIsTheEncodedWord :
    decode (.evt 0x9 (.aggregate State.reset.blk)) = .instr (.loadState State.reset.blk) :=
  rfl

theorem witness_StepPerformsTheOldestWordPresented :
    State.reset.port = [] ∧
    ({ State.reset with port := [busRead 0xFF04] } : State).port = [busRead 0xFF04] ∧ decode (busRead 0xFF04) = .instr .rdDiv ∧
    decode (.evt 0xA .none) = .reject .reservedSelector ∧ decode (.evt 0x0 .none) = .reject .operandKind :=
  by decide

theorem witness_ReservedEventsAreRefused :
    10 ≤ (0xA#4).toNat ∧ 5 ≤ (5#3).toNat ∧ State.reset.cfg.numRomBanks ≤ 4 ∧ max State.reset.cfg.numRamBanks 1 ≤ 4 ∧
    (under { Config.defaultCfg with cgb := false }).cfg.cgb = false :=
  by decide

theorem witness_BusOperationsNeverFail : State.reset.cfg.cartridgeWindow = false := rfl

theorem witness_TimerSyncHasTheClosedFormOfItsLoop :
    State.reset.blk.lastTimerCycle ≤ State.reset.blk.cycle :=
  by decide

/-- A running timer, 15 cycles into its period of 16. -/
def runningTimer : State :=
  on fun b => { b with cycle := 15, tac := 0x05, tima := 0xFF, tma := 0x80 }

theorem witness_LazyTimerEqualsTheNaiveTimer :
    (runningTimer.blk.lastTimerCycle ≤ runningTimer.blk.cycle ∧ runningTimer.blk.synced runningTimer.cfg) ∧
    State.reset.blk.lastTimerCycle ≤ State.reset.blk.cycle ∧ State.reset.blk.synced State.reset.cfg :=
  by decide +kernel

theorem witness_SynchronisingAtExtraPointsChangesNothing :
    runningTimer.blk.lastTimerCycle ≤ runningTimer.blk.cycle :=
  by decide

theorem witness_TimerCounterIsTheExactNextOverflow :
    runningTimer.inv ∧ runningTimer.blk.timerCounter runningTimer.cfg = some 1 ∧ State.reset.inv :=
  by decide +kernel

theorem witness_LcdcWriteSwitchesTheLcd :
    (0x00#8).getLsbD 7 = State.reset.blk.lcdc.getLsbD 7 ∧
    ((lcdOnStart false).blk.lcdc.getLsbD 7 = true ∧ (0x00#8).getLsbD 7 = false) ∧
    State.reset.blk.lcdc.getLsbD 7 = false ∧ (0x80#8).getLsbD 7 = true :=
  by decide

/-- The LCD on, in mode `m` of line `line`, on the last cycle of the phase. -/
def lastCycle (m : Byte) (line : Byte) : State :=
  on fun b => { b with lcdc := 0x80, stat := statWithMatch m (decide (line = 0)), ly := line, scanlineCounter := 1 }

theorem witness_LcdCountersCountDownAndDrawingModesFollow :
    ((lcdOnStart false).blk.lcdc.getLsbD 7 = true ∧ 2 ≤ (lcdOnStart false).blk.scanlineCounter) ∧
    (State.reset.blk.lcdc.getLsbD 7 = false ∧ 2 ≤ State.reset.blk.offCounter) ∧
    ((on fun b => { b with offCounter := 1 }).blk.lcdc.getLsbD 7 = false ∧ (on fun b => { b with offCounter := 1 }).blk.offCounter = 1) ∧
    ((lastCycle 2 143).blk.lcdc.getLsbD 7 = true ∧ (lastCycle 2 143).blk.scanlineCounter = 1 ∧ (lastCycle 2 143).blk.stat.extractLsb' 0 2 = 2) ∧
    (lastCycle 3 143).blk.lcdc.getLsbD 7 = true ∧ (lastCycle 3 143).blk.scanlineCounter = 1 ∧ (lastCycle 3 143).blk.stat.extractLsb' 0 2 = 3 :=
  by decide

theorem witness_EndOfModeZeroAdvancesTheLine :
    ((lastCycle 0 143).blk.lcdc.getLsbD 7 = true ∧ (lastCycle 0 143).blk.scanlineCounter = 1 ∧
      (lastCycle 0 143).blk.stat.extractLsb' 0 2 = 0 ∧ (lastCycle 0 143).blk.ly + 1 = 144) ∧
    (lastCycle 0 142).blk.lcdc.getLsbD 7 = true ∧ (lastCycle 0 142).blk.scanlineCounter = 1 ∧
      (lastCycle 0 142).blk.stat.extractLsb' 0 2 = 0 ∧ (lastCycle 0 142).blk.ly + 1 ≠ 144 :=
  by decide

theorem witness_VBlankLinesFollowAndWrap :
    ((lastCycle 1 151).blk.lcdc.getLsbD 7 = true ∧ (lastCycle 1 151).blk.scanlineCounter = 1 ∧
      (lastCycle 1 151).blk.stat.extractLsb' 0 2 = 1 ∧ (lastCycle 1 151).blk.ly.toNat ≤ 153) ∧
    ((lastCycle 1 152).blk.lcdc.getLsbD 7 = true ∧ (lastCycle 1 152).blk.scanlineCounter = 1 ∧
      (lastCycle 1 152).blk.stat.extractLsb' 0 2 = 1 ∧ (lastCycle 1 152).blk.ly.toNat ≤ 153) ∧
    ((lastCycle 1 153).blk.lcdc.getLsbD 7 = true ∧ (lastCycle 1 153).blk.scanlineCounter = 1 ∧
      (lastCycle 1 153).blk.stat.extractLsb' 0 2 = 1 ∧ (lastCycle 1 153).blk.ly.toNat ≤ 153) :=
  by decide

theorem witness_StatInterruptOnlyOnEnabledMatchTransition :
    (lastCycle 0 4).inv ∧ (lastCycle 0 4).blk.stat.getLsbD 3 = false ∧ (lastCycle 0 4).blk.stat.getLsbD 4 = false ∧
    (lastCycle 0 4).blk.stat.getLsbD 5 = false ∧ (lastCycle 0 4).blk.ifr.getLsbD 1 = false :=
  by decide +kernel

theorem witness_OneFrameHasOneVBlank :
    ((lcdOnStart false).inv ∧ (lcdOnStart false).blk.lcdOn = true ∧ (lcdOnStart false).blk.mode = 2 ∧
      (lcdOnStart false).blk.ly = 0 ∧ (lcdOnStart false).blk.scanlineCounter = 80 <<< (lcdOnStart false).blk.ds.toNat) ∧
    (lcdOnStart true).inv ∧ (lcdOnStart true).blk.lcdOn = true ∧ (lcdOnStart true).blk.mode = 2 ∧
      (lcdOnStart true).blk.ly = 0 ∧ (lcdOnStart true).blk.scanlineCounter = 80 <<< (lcdOnStart true).blk.ds.toNat :=
  by decide +kernel

theorem witness_IrqRequestSetsItsBitAndTestsBreak : (4#3).toNat ≤ 4 ∧ 5 ≤ (5#3).toNat := by decide

/-- Both sides of each equivalence are met. -/
theorem witness_SelectionIsTheLowestPendingSource :
    (on fun b => { b with ie := 0x14, ifr := 0x1F }).blk.irqSelect = some .timer ∧
    (on fun b => { b with ie := 0xE0, ifr := 0xE0 }).blk.irqSelect = none :=
  by decide

theorem witness_IrqAckAndBreakClearChangeOnlyTheirBit :
    (on fun b => { b with ie := 0x10, ifr := 0x10 }).blk.irqSelect = some .joypad ∧ State.reset.blk.irqSelect = none :=
  by decide

theorem witness_InterruptRegistersChangeOnlyByTheirOwnOperations :
    ∃ t, exec .irqAck (on fun b => { b with ie := 0x01, ifr := 0x01 }) = .next t :=
  ⟨_, rfl⟩

theorem witness_BreakFlagRisesOnlyWithAPendingInterrupt :
    (∃ t, exec (.wrIf 0x01) (on fun b => { b with ie := 0x01 }) = .next t ∧
      (on fun b => { b with ie := 0x01 }).blk.brk = false ∧ t.blk.brk = true) ∧
    ∃ t, exec .brkClr (on fun b => { b with brk := true }) = .next t ∧
      (on fun b => { b with brk := true }).blk.brk = true ∧ t.blk.brk = false :=
  ⟨⟨_, rfl, rfl, rfl⟩, _, rfl, rfl, rfl⟩

theorem witness_RomReadsShowOverlayAndBank :
    State.reset.blk.inv6 State.reset.cfg ∧ (0x3FFF#16).toNat < 0x4000 ∧ 0x4000 ≤ (0x4000#16).toNat ∧ (0x7FFF#16).toNat < 0x8000 :=
  by decide

theorem witness_RamReadsShowTheSelectedBank :
    State.reset.blk.inv6 State.reset.cfg ∧
    (inRange 0x8000 0x9FFF 0x9FFF = true ∧ inRange 0xC000 0xCFFF 0xCFFF = true ∧ inRange 0xD000 0xDFFF 0xD000 = true ∧
      inRange 0xE000 0xEFFF 0xE000 = true ∧ inRange 0xF000 0xFDFF 0xFDFF = true) :=
  by decide

/-- The reset state with the echo as open bus, and with no external RAM. -/
def openEcho : State := under { Config.defaultCfg with echoMode := .openBus, numRamBanks := 0 }

/-- The reset state with external RAM mapped. -/
def ramOn : State := on fun b => mapBanks Config.defaultCfg { b with ramEnabled := true }

/-- The reset state with the cartridge controller claiming the window. -/
def claimed : State := under { Config.defaultCfg with cartridgeWindow := true }

theorem witness_RamWritesStoreOneByteOfTheSelectedBank :
    (State.reset.blk.inv6 State.reset.cfg ∧ State.reset.cfg.echoMode = .mirror) ∧
    (openEcho.blk.inv6 openEcho.cfg ∧ openEcho.cfg.echoMode = .openBus) ∧
    (inRange 0x8000 0x9FFF 0x9FFF = true ∧ inRange 0xC000 0xCFFF 0xCFFF = true ∧ inRange 0xD000 0xDFFF 0xD000 = true ∧
      inRange 0xE000 0xEFFF 0xE000 = true ∧ inRange 0xF000 0xFDFF 0xFDFF = true) :=
  by decide

theorem witness_ExternalRamAnswersOnlyWhenMapped :
    (ramOn.blk.inv6 ramOn.cfg ∧ inRange 0xA000 0xBFFF 0xA000 = true ∧ inRange 0xA000 0xBFFF 0xBFFF = true ∧
      ramOn.cfg.cartridgeWindow = false ∧ ramOn.blk.ramEnabled = true ∧ 0 < ramOn.cfg.numRamBanks) ∧
    (State.reset.blk.inv6 State.reset.cfg ∧ State.reset.cfg.cartridgeWindow = false ∧ State.reset.blk.ramEnabled = false) ∧
    (openEcho.blk.inv6 openEcho.cfg ∧ openEcho.cfg.cartridgeWindow = false ∧ openEcho.cfg.numRamBanks = 0) ∧
    claimed.blk.inv6 claimed.cfg ∧ claimed.cfg.cartridgeWindow = true :=
  by decide +kernel

theorem witness_OamUnusedAndHighRamAccesses :
    inRange 0xFE00 0xFE9F 0xFE9F = true ∧ inRange 0xFEA0 0xFEFF 0xFEA0 = true ∧ inRange 0xFF80 0xFFFE 0xFFFE = true :=
  by decide

theorem witness_GenericIoIsStorageOrDelegated :
    (Instr.wellFormed (.rdIo 0xFF03) = true ∧ Instr.wellFormed (.wrIo 0xFF03 0x5A) = true ∧ 0xFF03 ∉ State.reset.cfg.delegatedIo) ∧
    (Instr.wellFormed (.rdIo 0xFF50) = true ∧ 0xFF50 ∉ State.reset.cfg.delegatedIo) ∧
    Instr.wellFormed (.rdIo 0xFF46) = true ∧ Instr.wellFormed (.wrIo 0xFF46 0xC0) = true ∧ 0xFF46 ∈ State.reset.cfg.delegatedIo :=
  by decide +kernel

theorem witness_BankOperationsSelectAndRemap :
    3 < State.reset.cfg.numRomBanks ∧ 0 < max openEcho.cfg.numRamBanks 1 :=
  by decide

theorem witness_PageTableIsRefreshedByExactlyTheBankOperations :
    (∃ t, exec (.mbcRombank 3) State.reset = .next t) ∧ (∃ t, exec .irqAck State.reset = .next t) ∧
    State.reset.blk.inv6 State.reset.cfg :=
  ⟨⟨_, rfl⟩, ⟨_, rfl⟩, rfl⟩

theorem witness_BankStateChangesOnlyByItsOwnOperation :
    (∃ t, exec (.wrBootoff 0x01) State.reset = .next t ∧ Instr.wrBootoff 0x01 ≠ .reset ∧ (∀ b, Instr.wrBootoff 0x01 ≠ .loadState b) ∧
      State.reset.blk.biosMapped = true ∧ t.blk.biosMapped = false ∧ t.bootoffWritten = true) ∧
    State.reset.inv ∧ ∃ t, exec (.loadState State.reset.blk) State.reset = .next t ∧ t.blk.biosMapped = true :=
  by
  refine ⟨⟨_, rfl, nofun, nofun, rfl, rfl, rfl⟩, by decide +kernel, ?_⟩
  exact ⟨_, (execLoadState_next _ _ _).mpr ⟨by decide +kernel, rfl⟩, rfl⟩

theorem witness_BusReadReturnsTheLastByteWritten :
    (State.reset.inv ∧ isPlainStorage State.reset 0x8000 = true ∧ isPlainStorage State.reset 0xDFFF = true ∧
      isPlainStorage State.reset 0xFDFF = true ∧ isPlainStorage State.reset 0xFE9F = true ∧
      isPlainStorage State.reset 0xFF03 = true ∧ isPlainStorage State.reset 0xFFFE = true) ∧
    ramOn.inv ∧ isPlainStorage ramOn 0xA000 = true :=
  by decide +kernel

theorem witness_UnmappedAddressesAreOpenBus :
    (State.reset.blk.inv6 State.reset.cfg ∧ isUnmapped State.reset 0xFEA0 = true ∧ isUnmapped State.reset 0xBFFF = true) ∧
    openEcho.blk.inv6 openEcho.cfg ∧ isUnmapped openEcho 0xE000 = true ∧ isUnmapped openEcho 0xFDFF = true :=
  by decide +kernel

theorem witness_ReadsHaveNoLaterEffect :
    State.reset.inv ∧ isBusRead .rdTima = true ∧ ∃ t, exec .rdTima State.reset = .next t ∧ t.draws = State.reset.draws :=
  ⟨by decide +kernel, rfl, _, rfl, rfl⟩

theorem witness_OnlyTickMovesTime :
    (∃ t, exec (.tick 2) State.reset = .next t) ∧ (∃ t, exec .reset State.reset = .next t) ∧
    (∃ t, exec .irqAck State.reset = .next t) ∧ ∃ t, exec (.loadState State.reset.blk) State.reset = .next t :=
  ⟨⟨_, rfl⟩, ⟨_, rfl⟩, ⟨_, rfl⟩, _, (execLoadState_next _ _ _).mpr ⟨by decide +kernel, rfl⟩⟩

theorem witness_NothingHappensBeforeTheNextEvent :
    (State.reset.inv ∧ 70679 < State.reset.blk.lcdCounter ∧ State.reset.blk.timerCounter State.reset.cfg = none) ∧
    runningTimer.inv ∧ 0 < runningTimer.blk.lcdCounter ∧ ∀ m, runningTimer.blk.timerCounter runningTimer.cfg = some m → 0 < m :=
  by
  refine ⟨by decide +kernel, by decide +kernel, by decide +kernel, fun m hm => ?_⟩
  have h : runningTimer.blk.timerCounter runningTimer.cfg = some 1 := by decide +kernel
  rw [h] at hm
  cases hm
  decide

theorem witness_ChunkedUpdateEqualsSingleCycles :
    (runningTimer.inv ∧ 1 ≤ minNone runningTimer.blk.lcdCounter (runningTimer.blk.timerCounter runningTimer.cfg)) ∧
    (lcdOnStart false).inv ∧ 80 ≤ minNone (lcdOnStart false).blk.lcdCounter ((lcdOnStart false).blk.timerCounter (lcdOnStart false).cfg) :=
  by decide +kernel

theorem witness_EventDrivenRunEqualsSingleCycles : (lcdOnStart false).inv := by decide +kernel

theorem witness_SchedulerOutputIsTheSmallestCountdown :
    State.reset.inv ∧ (some 1 : Option Nat) ≠ some 0 ∧ (none : Option Nat) ≠ some 0 :=
  by decide +kernel

theorem witness_SpeedSwitchTogglesAndRelatches :
    State.reset.cfg.cgb = true ∧ (under { Config.defaultCfg with cgb := false }).cfg.cgb = false :=
  by decide

/-- After a BOOTOFF write in this session. -/
def bootDone : State :=
  { (on fun b => mapBanks Config.defaultCfg { b with biosMapped := false }) with bootoffWritten := true }

theorem witness_LoadStateResynchronisesALegalSnapshot :
    (State.reset.blk.legal State.reset.cfg false = true ∧ writtenOnLoad State.reset.blk State.reset = false) ∧
    (bootDone.blk.legal State.reset.cfg true = true ∧ writtenOnLoad bootDone.blk State.reset = true) ∧
    (({ State.reset.blk with wramBank := 0 } : Block).legal State.reset.cfg false = false) ∧
    State.reset.blk.biosMapped = true ∧ bootDone.bootoffWritten = true ∧ bootDone.inv :=
  by decide +kernel

theorem witness_SaveThenLoadKeepsEverythingButTwoPhases : runningTimer.inv := by decide +kernel

theorem witness_ResetStateMeetsTheInvariant :
    cfgWf State.reset.cfg ∧ ∃ t, exec .reset State.reset = .next t :=
  ⟨by decide +kernel, _, rfl⟩

theorem witness_StepKeepsTheInvariant :
    ({ State.reset with port := [busWrite 0xFF07 0x05] } : State).inv ∧
    ∃ t, step { State.reset with port := [busWrite 0xFF07 0x05] } = .next t :=
  ⟨by decide +kernel, _, rfl⟩

/-- An interrupt is pending and selectable. -/
def pending : State := on fun b => { b with ie := 0x04, ifr := 0x04 }

/-- A CPU side with IME set and its stack at the top of high RAM. -/
def cpu : CpuSide := { ime := true, halted := false, sp := 0xFFFF, pc := 0x0150, owed := 0 }

theorem witness_DispatchPushesThePcAndVectors :
    (cpu.ime = true ∧ pending.blk.irqSelect = some .timer ∧ inRange 0xFF80 0xFFFE (cpu.sp - 1) = true ∧
      inRange 0xFF80 0xFFFE (cpu.sp - 2) = true) ∧
    State.reset.blk.irqSelect = none :=
  by decide

theorem witness_ReturnUndoesDispatch :
    (pending.inv ∧ cpu.ime = true ∧ pending.blk.irqSelect ≠ none) ∧
    (inRange 0xC000 0xDFFF (cpu.sp - 1) || inRange 0xFF80 0xFFFE (cpu.sp - 1)) = true ∧
    (inRange 0xC000 0xDFFF (cpu.sp - 2) || inRange 0xFF80 0xFFFE (cpu.sp - 2)) = true ∧
    (inRange 0xC000 0xDFFF ((0xE000 : Addr) - 1) || inRange 0xFF80 0xFFFE ((0xE000 : Addr) - 1)) = true ∧
    (inRange 0xC000 0xDFFF ((0xC002 : Addr) - 2) || inRange 0xFF80 0xFFFE ((0xC002 : Addr) - 2)) = true :=
  by decide +kernel

theorem witness_HaltTicksTheBudgetUntilPending :
    ((asleep true).cpu.halted = true ∧ (asleep true).st.blk.irqPending = false ∧
      ∃ e, performAll [.irqReq 3] (asleep true).st = .next e) ∧
    ((asleep false).cpu.ime = false ∧ ∃ e, performAll [] (asleep false).st = .next e) ∧ pending.blk.irqPending = true :=
  ⟨⟨rfl, by decide, _, rfl⟩, ⟨rfl, _, rfl⟩, by decide⟩

theorem witness_OpcodeChunksKeepTheirBudget :
    (∃ k, runOpcodes 8 [opcode [] 0x0151, opcode [] 0x0152] ⟨cpu, State.reset, 0, 0, [], [opcode [] 0x0151, opcode [] 0x0152]⟩ = .next k) ∧
    (cpu.halted = false ∧ State.reset.blk.brk = false ∧ ∃ r, performAll (opcode [.wrIf 0x04] 0x0152).ops State.reset = .next r) ∧
    ∃ r, performAll ([opcode [.wrIf 0x04] 0x0152, opcode [.rdDiv] 0x0153].flatMap Opcode.ops) State.reset = .next r :=
  ⟨⟨_, rfl⟩, ⟨rfl, rfl, _, rfl⟩, _, rfl⟩

end Sys2Proof.Tests
end

section
/-! What a step does with the port: the equations of `performWord` and `step`, one per case, and the obligation they
make up (spec/00_scope.md R13; spec/30_encoding.md R100, R102). -/

namespace Sys2Proof.Machine

/-- A word that decodes to an operation performs exactly it. -/
theorem performWord_of_decode_instr {w : PortWord} {i : Instr} (hd : decode w = .instr i) (s : State) :
    performWord w s = exec i s := by
  simp only [performWord, hd]

/-- A word the decoder rejects is refused in every state, by its rejection alone (R113). -/
theorem performWord_of_decode_reject {w : PortWord} {r : Reject} (hd : decode w = .reject r) (s : State) :
    performWord w s = .refused (refusalOf r) := by
  simp only [performWord, hd]

/-- With nothing presented the machine waits (log 1). -/
theorem step_of_port_nil {s : State} (hp : s.port = []) : step s = .next s := by
  simp only [step, hp]

/-- The oldest word is taken off the port and performed (R13). -/
theorem step_of_port_cons {s : State} {w : PortWord} {rest : List PortWord} (hp : s.port = w :: rest) :
    step s = performWord w { s with port := rest } := by
  simp only [step, hp]

/-- Settles O5: a step performs the oldest word, and what that does depends on how the word decodes. -/
theorem stepPerformsTheOldestWordPresented : Obligations.StepPerformsTheOldestWordPresented := by
  refine fun s => ⟨step_of_port_nil, fun w rest hp =>
    ⟨fun i hd => ?operation, fun hd => ?reserved, fun hd => ?malformed⟩⟩
  case operation => rw [step_of_port_cons hp, performWord_of_decode_instr hd]
  case reserved => rw [step_of_port_cons hp, performWord_of_decode_reject hd]; rfl
  case malformed => rw [step_of_port_cons hp, performWord_of_decode_reject hd]; rfl

end Sys2Proof.Machine
end

section
/-! The decoder answers only well-formed operations (spec/30_encoding.md R102, R103, R105): a row of the BUS map selects
a block of consecutive words, and the first row that selects a word builds an operation of its own address range. -/

namespace Sys2Proof

/-- The row's mask keeps all bits but the low `k`, which are 0 in its value. -/
abbrev BusRow.isBlock (r : BusRow) (k : Nat) : Prop :=
  r.mask = BitVec.allOnes 17 <<< k ∧ 0x20000 - r.mask.toNat = 2 ^ k ∧ 2 ^ k ∣ r.value.toNat

/-- Every row of the BUS map is a block of words (R103). -/
theorem busTable_isBlock : ∀ r ∈ busTable, ∃ k < 18, r.isBlock k := by decide

/-- A row selects the words of its block: from its value on, as many as its mask leaves open (R102). -/
theorem BusRow.selects_iff {r : BusRow} (hr : r ∈ busTable) (word : BusWord) :
    r.selects word = true ↔
      r.value.toNat ≤ word.toNat ∧ word.toNat < r.value.toNat + (0x20000 - r.mask.toNat) := by
  obtain ⟨k, -, hmask, hsize, c, hc⟩ := busTable_isBlock r hr
  have hpos : 0 < 2 ^ k := Nat.two_pow_pos k
  have hblock : (word >>> k <<< k).toNat = 2 ^ k * (word.toNat / 2 ^ k) := by
    have hle := Nat.mul_div_le word.toNat (2 ^ k)
    simp [Nat.shiftRight_eq_div_pow, Nat.shiftLeft_eq, Nat.mul_comm]
    omega
  rw [BusRow.selects, beq_iff_eq, hmask, ← BitVec.shiftLeft_ushiftRight, ← BitVec.toNat_inj, hblock, ← hmask, hsize, hc,
    Nat.mul_right_inj hpos.ne', Nat.div_eq_iff hpos, Nat.mul_comm]
  omega

/-- The address of a word is the word without its top bit (R101). -/
@[simp] theorem busAddr_toNat (word : BusWord) : (busAddr word).toNat = word.toNat % 0x10000 := by
  simp [busAddr]

/-- A BUS word decodes to a well-formed operation: its address lies in the block of the first row that selects the word,
and in the block of no row before it. -/
theorem decodeBus_wellFormed {word : BusWord} {wdata : Byte} {i : Instr} (h : decodeBus word wdata = .instr i) :
    i.wellFormed = true := by
  unfold decodeBus at h
  cases hf : busTable.find? (·.selects word) with
  | none => simp [hf] at h
  | some r =>
    simp only [hf, Decoded.instr.injEq] at h
    subst h
    have hsel := fun r hr => @BusRow.selects_iff r hr word
    simp only [busTable, busRowsWriteSingle, busRowsWriteRange, busRowsReadSingle, busRowsReadRange,
      List.cons_append, List.nil_append, List.forall_mem_cons, BitVec.reduceToNat, Nat.reduceSub,
      Nat.reduceAdd] at hsel hf
    simp only [List.find?_cons_eq_some, Bool.not_eq_true', Bool.eq_false_iff, ne_eq, hsel, List.find?_nil] at hf
    clear hsel
    -- one goal for each row, with the bounds of its block and the refuted bounds of the rows before it
    repeat' (rcases hf with ⟨hin, rfl⟩ | ⟨hnotin, hf⟩)
    all_goals simp [Instr.wellFormed, inRange, ownWriteRow, ownReadRow, ← BitVec.toNat_inj] <;> omega

/-- An EVT word decodes to an operation without an address, which is always well formed (R105). -/
theorem decodeEvt_wellFormed {sel : BitVec 4} {o : EvtOperand} {i : Instr} (h : decodeEvt sel o = .instr i) :
    i.wellFormed = true := by
  unfold decodeEvt at h
  split at h
  case h_11 => split at h <;> cases h
  all_goals cases h; rfl

/-- The decoder answers only well-formed operations. -/
theorem decode_wellFormed {w : PortWord} {i : Instr} (h : decode w = .instr i) : i.wellFormed = true := by
  cases w with
  | bus word wdata => exact decodeBus_wellFormed h
  | evt sel o => exact decodeEvt_wellFormed h

end Sys2Proof

namespace Sys2Proof.Machine

/-! ### Well-formed addresses reach cells of their store -/

theorem hramOff_lt {a : Addr} {v : Byte} (h : (Instr.wrHram a v).wellFormed = true) : hramOff a < 0x7F := by
  simp [Instr.wellFormed, inRange] at h
  unfold hramOff
  omega

theorem oamOff_lt {a : Addr} {v : Byte} (h : (Instr.wrOam a v).wellFormed = true) : byteOff a < 0xA0 := by
  simp [Instr.wellFormed, inRange] at h
  unfold byteOff
  omega

theorem ioOff_lt {a : Addr} {v : Byte} (h : (Instr.wrIo a v).wellFormed = true) : byteOff a < 0x80 := by
  simp [Instr.wellFormed, inRange] at h
  unfold byteOff
  omega

end Sys2Proof.Machine
end

section
/-! The display's part of the invariant (INV3, INV4, INV5 and INV9 of spec/10_state.md R54) under every operation of the
LCD timing, from the mode and the match flag after each write of STAT (R30). -/

namespace Sys2Proof.Machine

/-! ### The mode and the match flag after a write of STAT -/

@[simp] theorem statWithMode_mode (st : Byte) (m : BitVec 2) : (statWithMode st m).extractLsb' 0 2 = m := by
  ext i hi
  interval_cases i <;> simp [statWithMode]

@[simp] theorem statWithMode_match (st : Byte) (m : BitVec 2) : (statWithMode st m)[2] = st[2] := by
  simp [statWithMode]

@[simp] theorem statWithMatch_mode (st : Byte) (f : Bool) :
    (statWithMatch st f).extractLsb' 0 2 = st.extractLsb' 0 2 := by
  ext i hi
  interval_cases i <;> cases f <;> simp [statWithMatch]

@[simp] theorem statWithMatch_match (st : Byte) (f : Bool) : (statWithMatch st f)[2] = f := by
  cases f <;> simp [statWithMatch]

@[simp] theorem statWritten_mode (st v : Byte) : (statWritten st v).extractLsb' 0 2 = st.extractLsb' 0 2 := by
  ext i hi
  interval_cases i <;> simp [statWritten]

@[simp] theorem statWritten_match (st v : Byte) : (statWritten st v)[2] = st[2] := by
  simp [statWritten]

@[simp] theorem withMode_mode (b : Block) (m : BitVec 2) : (b.withMode m).mode = m := statWithMode_mode b.stat m

@[simp] theorem withMode_lycMatch (b : Block) (m : BitVec 2) : (b.withMode m).lycMatch = b.lycMatch :=
  statWithMode_match b.stat m

@[simp] theorem lycCheck_mode (b : Block) : (lycCheck b).mode = b.mode := by
  simp [Block.mode]

/-- After `lyc_check()` the match flag is right (R220). -/
theorem lycCheck_inv3 (b : Block) : (lycCheck b).inv3 := by
  simp [Block.inv3, Block.lycMatch]

@[simp] theorem newLine_ly (b : Block) (v : Byte) : (b.newLine v).ly = v := lycCheck_ly _

@[simp] theorem newLine_mode (b : Block) (v : Byte) : (b.newLine v).mode = b.mode := lycCheck_mode _

/-! ### The display's part of the invariant -/

/-- The display's part of the invariant: INV3, INV4, INV5 and INV9 of R54. -/
def Block.lcdInv (b : Block) : Prop := b.inv3 ∧ b.inv4 ∧ b.inv5 ∧ b.inv9

/-- The registers the display's part of the invariant speaks of. -/
def Block.displayPart (b : Block) : Byte × Byte × Byte × Byte × Nat × Nat :=
  (b.lcdc, b.stat, b.ly, b.lyc, b.scanlineCounter, b.offCounter)

theorem lcdInv_congr {b c : Block} (h : c.displayPart = b.displayPart) (hb : b.lcdInv) : c.lcdInv := by
  simp only [Block.displayPart, Prod.mk.injEq] at h
  obtain ⟨hlcdc, hstat, hly, hlyc, hscan, hoff⟩ := h
  simpa only [Block.lcdInv, Block.inv3, Block.inv4, Block.inv5, Block.inv9, Block.lcdOn, Block.mode, Block.lycMatch,
    hlcdc, hstat, hly, hlyc, hscan, hoff] using hb

/-- The line number fits the mode: VBlank lines in Mode 1, drawn lines in every other mode (INV5). -/
def Block.lineFits (b : Block) : Prop :=
  if b.mode = 1 then 144 ≤ b.ly.toNat ∧ b.ly.toNat ≤ 153 else b.ly.toNat ≤ 143

/-- INV5 says, for each mode, that the line number fits it. -/
theorem lineFits_of_inv5 {b : Block} (hon : b.lcdOn = true) (h5 : b.inv5) : b.lineFits := by
  obtain ⟨-, h2, h3, h0, h1⟩ := h5 hon
  unfold Block.lineFits
  split
  case isTrue hm => exact h1 hm
  case isFalse hm =>
    have hmodes : b.mode = 2 ∨ b.mode = 3 ∨ b.mode = 0 := by
      revert hm
      generalize b.mode = m
      revert m
      decide
    rcases hmodes with hm | hm | hm
    · exact (h2 hm).1
    · exact h3 hm
    · exact h0 hm

/-- With the LCD on, the display's part is a right match flag, a line number that fits the mode, and the bounds of the
two counters. -/
theorem lcdInv_of_on {b : Block} (hon : b.lcdOn = true) (h3 : b.inv3) (h9 : b.inv9) (hline : b.lineFits)
    (hrun : 1 ≤ b.scanlineCounter) (hmode2 : b.mode = 2 → b.scanlineCounter ≤ Config.mode2Cycles <<< 1) :
    b.lcdInv := by
  refine ⟨h3, fun hoff => absurd (hoff.symm.trans hon) Bool.false_ne_true, fun _ => ⟨hrun,
    fun hm => ⟨?mode2, hmode2 hm⟩, fun hm => ?mode3, fun hm => ?mode0, fun hm => ?mode1⟩, h9⟩
  all_goals simpa [Block.lineFits, hm] using hline

/-! ### The phases of a line -/

/-- An LCDT length under either speed is between its normal and its doubled value (R221). -/
theorem scaled_bounds (b : Block) (n : Nat) : n ≤ b.scaled n ∧ b.scaled n ≤ n <<< 1 := by
  unfold Block.scaled
  cases b.ds <;> simp [Nat.shiftLeft_eq] <;> omega

/-- A phase lasts at least one cycle. -/
theorem one_le_scaled (b : Block) {n : Nat} (hn : 1 ≤ n) : 1 ≤ b.scaled n := hn.trans (scaled_bounds b n).1

/-- A full LCD-off period is within the bounds of INV9 at either speed. -/
theorem scaled_frame_bounds (b : Block) :
    1 ≤ b.scaled Config.frameCycles ∧ b.scaled Config.frameCycles ≤ Config.frameCycles <<< 1 :=
  ⟨one_le_scaled b (by decide), (scaled_bounds b _).2⟩

/-- The line numbers that fit a mode entered. -/
theorem lineFits_withMode {b : Block} {m : BitVec 2} :
    (b.withMode m).lineFits ↔ if m = 1 then 144 ≤ b.ly.toNat ∧ b.ly.toNat ≤ 153 else b.ly.toNat ≤ 143 := by
  unfold Block.lineFits
  rw [withMode_mode]
  rfl

/-- Mode 2 may begin at every drawn line (R213). -/
theorem enterMode2_lcdInv {b : Block} (hon : b.lcdOn = true) (h3 : b.inv3) (h9 : b.inv9) (hly : b.ly.toNat ≤ 143) :
    (enterMode2 b).lcdInv := by
  refine lcdInv_of_on ?_ ?_ ?_ ?_ ?_ fun _ => ?_
  · simpa [Block.lcdOn] using hon
  · simpa [Block.inv3, Block.lycMatch] using h3
  · simpa [Block.inv9] using h9
  · simpa [Block.lineFits, Block.mode] using hly
  · rw [enterMode2_scanlineCounter]; exact one_le_scaled b (by decide)
  · rw [enterMode2_scanlineCounter]; exact (scaled_bounds b _).2

/-- A phase other than Mode 2 may begin, with any length, where the line number fits its mode. -/
theorem lcdInv_of_phase {b c : Block} (m : BitVec 2) (hon : b.lcdOn = true) (h3 : b.inv3) (h9 : b.inv9) (hm : m ≠ 2)
    (hline : (b.withMode m).lineFits) (hrun : 1 ≤ c.scanlineCounter)
    (hc : c.displayPart = (b.lcdc, statWithMode b.stat m, b.ly, b.lyc, c.scanlineCounter, b.offCounter)) : c.lcdInv :=
  lcdInv_congr (b := { b.withMode m with scanlineCounter := c.scanlineCounter }) hc <|
    lcdInv_of_on hon ((withMode_lycMatch b m).trans h3) h9 hline hrun fun h2 =>
      absurd ((withMode_mode b m).symm.trans h2) hm

/-- A new line leaves the LCD and the LCD-off counter as they were, and the match flag right. -/
theorem newLine_keeps {b : Block} (hon : b.lcdOn = true) (h9 : b.inv9) (v : Byte) :
    (b.newLine v).lcdOn = true ∧ (b.newLine v).inv3 ∧ (b.newLine v).inv9 := by
  refine ⟨?_, lycCheck_inv3 _, ?_⟩
  · simpa [Block.newLine, Block.lcdOn] using hon
  · simpa [Block.newLine, Block.inv9] using h9

/-- A further VBlank line may begin, with any length (R217, R218). -/
theorem newLine_lcdInv {b : Block} (hon : b.lcdOn = true) (h9 : b.inv9) (hmode : b.mode = 1) {v : Byte}
    (hv : 144 ≤ v.toNat ∧ v.toNat ≤ 153) {k : Nat} (hk : 1 ≤ k) :
    ({ b.newLine v with scanlineCounter := k } : Block).lcdInv := by
  obtain ⟨hon', h3', h9'⟩ := newLine_keeps hon h9 v
  have hmode' : (b.newLine v).mode = 1 := (newLine_mode b v).trans hmode
  have hline : (b.newLine v).lineFits := by simpa [Block.lineFits, hmode'] using hv
  exact lcdInv_of_on hon' h3' h9' hline hk fun h2 => absurd (hmode'.symm.trans h2) (by decide)

/-- The end of Mode 0 (R216): line 144 begins VBlank, an earlier line Mode 2. -/
theorem endOfMode0_lcdInv {b : Block} (hon : b.lcdOn = true) (h9 : b.inv9) (hly : b.ly.toNat ≤ 143) :
    (endOfMode0 b).1.lcdInv := by
  obtain ⟨hon', h3', h9'⟩ := newLine_keeps hon h9 (b.ly + 1)
  simp only [endOfMode0]
  split
  case isTrue hvb =>
    refine lcdInv_of_phase 1 hon' h3' h9' (by decide) (lineFits_withMode.mpr ?_) (one_le_scaled _ (by decide)) ?_
    · rw [hvb]; decide
    · simp [Block.displayPart, Block.withMode]
  case isFalse hvb =>
    refine enterMode2_lcdInv hon' h3' h9' ?_
    rw [newLine_ly] at hvb ⊢
    simp [← BitVec.toNat_inj, Config.vblankLy] at hvb ⊢
    omega

/-- The end of a VBlank line (R217 to R219): the next VBlank line, or Mode 2 of line 0. -/
theorem endOfMode1_lcdInv {b : Block} (hon : b.lcdOn = true) (h9 : b.inv9) (hmode : b.mode = 1)
    (hly : 144 ≤ b.ly.toNat) : (endOfMode1 b).1.lcdInv := by
  unfold endOfMode1
  split
  case isTrue h151 =>
    refine newLine_lcdInv hon h9 hmode ?_ (one_le_scaled _ (by decide))
    simp [BitVec.toNat_add]
    omega
  case isFalse =>
    split
    case isTrue => exact newLine_lcdInv hon h9 hmode (by decide) (one_le_scaled _ (by decide))
    case isFalse =>
      obtain ⟨hon', h3', h9'⟩ := newLine_keeps hon h9 0
      exact enterMode2_lcdInv hon' h3' h9' (by simp)

/-- Every transition of the display leads from a line that fits its mode to one that does (R212 to R219). -/
theorem transition_lcdInv {b : Block} (hon : b.lcdOn = true) (h3 : b.inv3) (h9 : b.inv9) (hline : b.lineFits) :
    (transition b).1.lcdInv := by
  have hdrawn : b.mode ≠ 1 → b.ly.toNat ≤ 143 := fun hm => by
    rwa [Block.lineFits, if_neg hm] at hline
  unfold transition
  split
  case h_1 hm =>
    have hly := hdrawn fun h => by simp [h] at hm
    exact lcdInv_of_phase 3 hon h3 h9 (by decide) (lineFits_withMode.mpr hly) (one_le_scaled _ (by decide)) rfl
  case h_2 hm =>
    have hly := hdrawn fun h => by simp [h] at hm
    refine lcdInv_of_phase 0 hon h3 h9 (by decide) (lineFits_withMode.mpr hly) (one_le_scaled _ (by decide)) ?_
    simp [mode3To0, Block.displayPart, Block.withMode]
  case h_3 hm => exact endOfMode0_lcdInv hon h9 (hdrawn fun h => by simp [h] at hm)
  case h_4 hne2 hne3 hne0 =>
    have hmode : b.mode = 1 := by
      clear hline hdrawn
      revert hne2 hne3 hne0
      generalize b.mode = m
      revert m
      decide
    rw [Block.lineFits, if_pos hmode] at hline
    exact endOfMode1_lcdInv hon h9 hmode hline.1

/-- One LCD step keeps the display's part of the invariant (R210, R211). -/
theorem lcdStep_lcdInv {b : Block} (h : b.lcdInv) : (lcdStep b).1.lcdInv := by
  obtain ⟨h3, h4, h5, h9⟩ := h
  unfold lcdStep
  split
  case isTrue hon =>
    have hline := lineFits_of_inv5 hon h5
    split
    case isTrue => exact transition_lcdInv hon h3 h9 hline
    case isFalse hcount =>
      obtain ⟨-, hmode2, -⟩ := h5 hon
      exact lcdInv_of_on hon h3 h9 hline (Nat.one_le_iff_ne_zero.mpr hcount) fun hm =>
        (Nat.sub_le _ _).trans (hmode2 hm).2
  case isFalse =>
    unfold offStep
    split
    case isTrue => exact ⟨h3, h4, h5, scaled_frame_bounds b⟩
    case isFalse hcount => exact ⟨h3, h4, h5, Nat.one_le_iff_ne_zero.mpr hcount, (Nat.sub_le _ _).trans h9.2⟩

/-! ### The writes of LCDC, STAT and LYC -/

/-- `lyc_check()` restores INV3 and keeps the rest of the display's part (R220). -/
theorem lycCheck_lcdInv {b : Block} (h4 : b.inv4) (h5 : b.inv5) (h9 : b.inv9) : (lycCheck b).lcdInv := by
  refine ⟨lycCheck_inv3 b, ?_, ?_, ?_⟩
  · simpa [Block.inv4, Block.lcdOn] using h4
  · simpa [Block.inv5, Block.lcdOn] using h5
  · simpa [Block.inv9] using h9

/-- Turning the LCD off leaves line 0, Mode 0 and a full LCD-off period (R202). -/
theorem turnOff_lcdInv {b : Block} (hoff : b.lcdOn = false) : (turnOff b).lcdInv := by
  refine lcdInv_congr ?_ (lycCheck_lcdInv
    (b := { ({ b with ly := 0 } : Block).withMode 0 with offCounter := b.scaled Config.frameCycles })
    (fun _ => ⟨rfl, withMode_mode _ 0⟩) (fun hon => absurd (hoff.symm.trans hon) Bool.false_ne_true)
    (scaled_frame_bounds b))
  simp [turnOff, Block.displayPart, Block.withMode, Block.scaled]

/-- A write of LCDC that leaves the LCD on or off as it was keeps the display's part (R202). -/
theorem lcdc_lcdInv {b : Block} (h : b.lcdInv) {v : Byte} (hv : lcdOnBit v = b.lcdOn) :
    ({ b with lcdc := v } : Block).lcdInv := by
  have hon : ({ b with lcdc := v } : Block).lcdOn = b.lcdOn := hv
  unfold Block.lcdInv Block.inv4 Block.inv5
  rwa [hon]

/-- A bus write of STAT keeps the mode and the match flag, and so the display's part (R204). -/
theorem statWritten_lcdInv {b : Block} (h : b.lcdInv) (v : Byte) :
    ({ b with stat := statWritten b.stat v } : Block).lcdInv := by
  simpa [Block.lcdInv, Block.inv3, Block.inv4, Block.inv5, Block.inv9, Block.mode, Block.lycMatch, Block.lcdOn] using h

end Sys2Proof.Machine
end

section
/-! The aggregate's invariant in four parts, one per unit (the timer, the display, the banks, the memories). An
operation's proof speaks of the part its unit writes and cites the operation's frame for the others. -/

namespace Sys2Proof.Machine

/-! ### The four parts -/

/-- The timer's part of the invariant: INV1 of R54 and the synchronised timer of R38. -/
def Block.clockInv (cfg : Cfg) (b : Block) : Prop := b.inv1 ∧ b.synced cfg

/-- The banks' part of the invariant: INV6 to INV8 of R54, with the session of INV8 (log 13). -/
def Block.bankInv (cfg : Cfg) (written : Bool) (b : Block) : Prop :=
  b.inv6 cfg ∧ b.inv7 cfg ∧ b.inv8 cfg written ∧ (b.showsBootoff cfg = true → written = true)

/-- The aggregate's invariant, by unit. -/
structure Block.Inv (cfg : Cfg) (written : Bool) (b : Block) : Prop where
  clock : b.clockInv cfg
  display : b.lcdInv
  banks : b.bankInv cfg written
  stores : b.memWf cfg

/-- The machine's invariant is a legal configuration and the four parts. -/
theorem inv_iff (s : State) : s.inv ↔ cfgWf s.cfg ∧ s.blk.Inv s.cfg s.bootoffWritten := by
  unfold State.inv
  rw [legal_iff]
  constructor
  · rintro ⟨hcfg, ⟨h1, h3, h4, h5, h6, h7, h8, h9, hmem⟩, hsession, hsync⟩
    exact ⟨hcfg, ⟨h1, hsync⟩, ⟨h3, h4, h5, h9⟩, ⟨h6, h7, h8, hsession⟩, hmem⟩
  · rintro ⟨hcfg, ⟨h1, hsync⟩, ⟨h3, h4, h5, h9⟩, ⟨h6, h7, h8, hsession⟩, hmem⟩
    exact ⟨hcfg, ⟨h1, h3, h4, h5, h6, h7, h8, h9, hmem⟩, hsession, hsync⟩

/-! ### What the parts speak of -/

/-- The registers the timer's part speaks of. -/
def Block.clockPart (b : Block) : Nat × Nat × Nat × Byte × Bool :=
  (b.cycle, b.lastTimerCycle, b.lastDividerCycle, b.tac, b.ds)

/-- The registers the banks' part speaks of, and the speed. -/
def Block.bankPart (b : Block) : Bool × Nat × Nat × Bool × Nat × Nat × Bool × Byte × Vector PageEntry 16 :=
  (b.biosMapped, b.romBank, b.ramBank, b.ramEnabled, b.wramBank, b.vramBank, b.ds, b.bootoff, b.pageTable)

/-- The stores' cells. -/
def Block.storePart (b : Block) : Memory × Memory × Memory × Memory × Memory × Memory :=
  (b.vram, b.xram, b.wram, b.oam, b.hram, b.io)

variable {cfg : Cfg} {w : Bool} {b c : Block}

theorem clockInv_congr (h : c.clockPart = b.clockPart) (hb : b.clockInv cfg) : c.clockInv cfg := by
  simp only [Block.clockPart, Prod.mk.injEq] at h
  obtain ⟨hcycle, htimer, hdivider, htac, hds⟩ := h
  simpa only [Block.clockInv, Block.inv1, Block.synced, Block.timaSh, hcycle, htimer, hdivider, htac, hds] using hb

theorem bankInv_congr (h : c.bankPart = b.bankPart) (hb : b.bankInv cfg w) : c.bankInv cfg w := by
  simp only [Block.bankPart, Prod.mk.injEq] at h
  obtain ⟨hbios, hrom, hram, hen, hwram, hvram, -, hoff, htable⟩ := h
  simpa only [Block.bankInv, Block.inv6, Block.inv7, Block.inv8, Block.showsBootoff, hbios, hrom, hram, hen, hwram,
    hvram, hoff, htable] using hb

theorem memWf_congr (h : c.storePart = b.storePart) (hb : b.memWf cfg) : c.memWf cfg := by
  simp only [Block.storePart, Prod.mk.injEq] at h
  obtain ⟨hvram, hxram, hwram, hoam, hhram, hio⟩ := h
  simpa only [Block.memWf, hvram, hxram, hwram, hoam, hhram, hio] using hb

/-! ### One unit's operation leaves the other parts alone -/

/-- What the timer's operations leave alone. -/
def Block.besideClock (b : Block) := (b.displayPart, b.bankPart, b.storePart)

/-- What the display's operations leave alone. -/
def Block.besideDisplay (b : Block) := (b.clockPart, b.bankPart, b.storePart)

/-- What a store write leaves alone. -/
def Block.besideStores (b : Block) := (b.clockPart, b.displayPart, b.bankPart)

/-- What the bank operations but SPEED_SWITCH leave alone. -/
def Block.besideBanks (b : Block) := (b.clockPart, b.displayPart, b.storePart)

theorem Block.Inv.of_clock (h : b.Inv cfg w) (hrest : c.besideClock = b.besideClock) (hc : c.clockInv cfg) :
    c.Inv cfg w := by
  simp only [Block.besideClock, Prod.mk.injEq] at hrest
  obtain ⟨hdisplay, hbanks, hstores⟩ := hrest
  exact ⟨hc, lcdInv_congr hdisplay h.display, bankInv_congr hbanks h.banks, memWf_congr hstores h.stores⟩

theorem Block.Inv.of_display (h : b.Inv cfg w) (hrest : c.besideDisplay = b.besideDisplay) (hc : c.lcdInv) :
    c.Inv cfg w := by
  simp only [Block.besideDisplay, Prod.mk.injEq] at hrest
  obtain ⟨hclock, hbanks, hstores⟩ := hrest
  exact ⟨clockInv_congr hclock h.clock, hc, bankInv_congr hbanks h.banks, memWf_congr hstores h.stores⟩

theorem Block.Inv.of_stores (h : b.Inv cfg w) (hrest : c.besideStores = b.besideStores) (hc : c.memWf cfg) :
    c.Inv cfg w := by
  simp only [Block.besideStores, Prod.mk.injEq] at hrest
  obtain ⟨hclock, hdisplay, hbanks⟩ := hrest
  exact ⟨clockInv_congr hclock h.clock, lcdInv_congr hdisplay h.display, bankInv_congr hbanks h.banks, hc⟩

/-- Bank operations end with the page table refreshed, which gives INV6; the ranges and the session are left to show
(R132). -/
theorem Block.Inv.remap {w' : Bool} (h : b.Inv cfg w) (hrest : c.besideBanks = b.besideBanks) (h7 : c.inv7 cfg)
    (h8 : c.inv8 cfg w') (hsession : c.showsBootoff cfg = true → w' = true) : (mapBanks cfg c).Inv cfg w' := by
  simp only [Block.besideBanks, Prod.mk.injEq] at hrest
  obtain ⟨hclock, hdisplay, hstores⟩ := hrest
  exact ⟨clockInv_congr hclock h.clock, lcdInv_congr hdisplay h.display, ⟨rfl, h7, h8, hsession⟩,
    memWf_congr hstores h.stores⟩

/-! ### The frames of the shared operations -/

theorem timerSync_besideClock (cfg : Cfg) (b : Block) : (timerSync cfg b).besideClock = b.besideClock :=
  (congrArg Block.besideClock (timerSync_frame cfg b)).trans rfl

theorem lycCheck_besideDisplay (b : Block) : (lycCheck b).besideDisplay = b.besideDisplay :=
  (congrArg Block.besideDisplay (lycCheck_frame b)).trans rfl

theorem enterMode2_besideDisplay (b : Block) : (enterMode2 b).besideDisplay = b.besideDisplay :=
  (congrArg Block.besideDisplay (enterMode2_frame b)).trans rfl

theorem turnOff_besideDisplay (b : Block) : (turnOff b).besideDisplay = b.besideDisplay :=
  (lycCheck_besideDisplay _).trans rfl

theorem lcdStep_besideDisplay (b : Block) : (lcdStep b).1.besideDisplay = b.besideDisplay :=
  (congrArg Block.besideDisplay (lcdStep_frame b)).trans rfl

theorem writeByte_besideStores (b : Block) (st : Store) (i : Nat) (v : Byte) :
    (b.writeByte st i v).besideStores = b.besideStores :=
  (congrArg Block.besideStores (writeByte_frame b st i v)).trans rfl

theorem tableWrite_besideStores (b : Block) (a : Addr) (v : Byte) :
    (tableWrite b a v).besideStores = b.besideStores := by
  rcases tableWrite_cases b a v with ⟨st, i, -, ht⟩ | ⟨-, ht⟩
  · rw [ht, writeByte_besideStores]
  · rw [ht]

theorem cellWrite_besideStores (b : Block) (c : Option (Store × Nat)) (v : Byte) :
    (cellWrite b c v).besideStores = b.besideStores := by
  cases c with
  | none => rfl
  | some c => exact writeByte_besideStores b c.1 c.2 v

/-- IRQ_ACK writes IF only (R258). -/
theorem acknowledge_frame (b : Block) : acknowledge b = { b with ifr := (acknowledge b).ifr } := by
  unfold acknowledge
  split <;> rfl

/-! ### The timer's part -/

/-- Where `timer_sync()` leaves the latch: at the last whole period, or at the cycle counter while stopped (R172). -/
theorem timerSync_lastTimerCycle (cfg : Cfg) (b : Block) :
    (timerSync cfg b).lastTimerCycle =
      if tacEnable b.tac then
        b.lastTimerCycle + (b.cycle - b.lastTimerCycle) >>> b.timaSh cfg <<< b.timaSh cfg
      else b.cycle := by
  unfold timerSync
  split
  · rw [reloadLoop_frame]
  · rfl

/-- A latch set to the cycle counter is synchronised, whatever TAC is (R182, R284, R353). -/
theorem clockInv_of_latched (ht : b.lastTimerCycle = b.cycle) (hd : b.lastDividerCycle ≤ b.cycle) :
    b.clockInv cfg := by
  refine ⟨⟨ht.le, hd⟩, ?_⟩
  unfold Block.synced
  split
  · rw [ht, Nat.sub_self]; exact Nat.two_pow_pos _
  · exact ht

/-- `timer_sync()` synchronises the timer (R38, R172). -/
theorem timerSync_clockInv (h1 : b.inv1) : (timerSync cfg b).clockInv cfg := by
  obtain ⟨ht, hd⟩ := h1
  have hlatch := timerSync_lastTimerCycle cfg b
  cases hen : tacEnable b.tac with
  | false =>
    rw [hen] at hlatch
    exact clockInv_of_latched (by simpa using hlatch) (by simpa using hd)
  | true =>
    have hsh : (timerSync cfg b).timaSh cfg = b.timaSh cfg := by simp [Block.timaSh]
    have hdiv := Nat.div_add_mod (b.cycle - b.lastTimerCycle) (2 ^ b.timaSh cfg)
    have hmod := Nat.mod_lt (b.cycle - b.lastTimerCycle) (Nat.two_pow_pos (b.timaSh cfg))
    rw [hen, if_pos rfl, Nat.shiftRight_eq_div_pow, Nat.shiftLeft_eq, Nat.mul_comm] at hlatch
    simp only [Block.clockInv, Block.inv1, Block.synced, timerSync_cycle, timerSync_lastDividerCycle, timerSync_tac,
      hen, if_pos, hsh, hlatch]
    omega

/-! ### The shared operations keep the invariant -/

/-- `timer_sync()` keeps the invariant. -/
theorem Block.Inv.after_timerSync (h : b.Inv cfg w) : (timerSync cfg b).Inv cfg w :=
  h.of_clock (timerSync_besideClock cfg b) (timerSync_clockInv h.clock.1)

/-- Setting the timer latch to the cycle counter keeps the invariant, with any TAC and any speed (R182, R284). -/
theorem Block.Inv.after_latch (h : b.Inv cfg w) (tac : Byte) (ds : Bool) {k : Nat} (hk : k = b.cycle) :
    ({ b with tac := tac, ds := ds, lastTimerCycle := k } : Block).Inv cfg w :=
  ⟨clockInv_of_latched hk h.clock.1.2, h.display, h.banks, h.stores⟩

/-- The single-cycle step keeps the invariant (R281). -/
theorem Block.Inv.after_cycleStep (h : b.Inv cfg w) : (cycleStep cfg b).1.Inv cfg w := by
  obtain ⟨htimer, hdivider⟩ := h.clock.1
  have hcount : b.countCycle.inv1 := ⟨Nat.le_succ_of_le htimer, Nat.le_succ_of_le hdivider⟩
  have hsync : (timerSync cfg b.countCycle).Inv cfg w :=
    h.of_clock (timerSync_besideClock cfg b.countCycle) (timerSync_clockInv hcount)
  exact hsync.of_display (lcdStep_besideDisplay _) (lcdStep_lcdInv hsync.display)

/-- Any number of cycles keeps the invariant (R280). -/
theorem Block.Inv.after_cycles (n : Nat) (h : b.Inv cfg w) : (cycles cfg n b).1.Inv cfg w := by
  induction n generalizing b with
  | zero => exact h
  | succ n ih => exact ih h.after_cycleStep

/-- Acknowledging an interrupt keeps the invariant (R258). -/
theorem Block.Inv.after_acknowledge (h : b.Inv cfg w) : (acknowledge b).Inv cfg w := by
  rw [acknowledge_frame]
  exact ⟨h.clock, h.display, h.banks, h.stores⟩

/-- A write within its store keeps the invariant. -/
theorem Block.Inv.after_writeByte (h : b.Inv cfg w) {st : Store} {i : Nat} (hi : i < storeSize cfg st) (v : Byte) :
    (b.writeByte st i v).Inv cfg w :=
  h.of_stores (writeByte_besideStores b st i v) (writeByte_memWf v h.stores hi)

/-- A write through the page table keeps the invariant (R137). -/
theorem Block.Inv.after_tableWrite (h : b.Inv cfg w) (a : Addr) (v : Byte) : (tableWrite b a v).Inv cfg w := by
  obtain ⟨h6, h7, -⟩ := h.banks
  exact h.of_stores (tableWrite_besideStores b a v) (tableWrite_memWf h6 h7 h.stores a v)

/-- A write of an echo address in page 0xF keeps the invariant (R154). -/
theorem Block.Inv.after_echo1Write (h : b.Inv cfg w) (a : Addr) (v : Byte) :
    (cellWrite b (echo1Cell cfg b a) v).Inv cfg w := by
  obtain ⟨-, h7, -⟩ := h.banks
  exact h.of_stores (cellWrite_besideStores b _ v) (echo1_memWf h7 h.stores a v)

end Sys2Proof.Machine
end

section
/-! What the operations with a guard or a choice can do, said once each: if one answers a next state, then its guard
held and this is the completed operation. -/

namespace Sys2Proof.Machine

variable {s t : State}

theorem execRdXram_next {a : Addr} (h : execRdXram a s = .next t) :
    answerByte s (tableRead s.cfg s.blk a) = .next t := by
  unfold execRdXram at h
  split at h
  · cases h
  · exact h

theorem execWrXram_next {a : Addr} {v : Byte} (h : execWrXram a v s = .next t) :
    done s (tableWrite s.blk a v) = .next t := by
  unfold execWrXram at h
  split at h
  · cases h
  · exact h

/-- A generic I/O read changes neither the configuration, nor the aggregate, nor the session (R168). -/
theorem execRdIo_next {a : Addr} (h : execRdIo a s = .next t) :
    t.cfg = s.cfg ∧ t.blk = s.blk ∧ t.bootoffWritten = s.bootoffWritten := by
  unfold execRdIo at h
  split at h <;> cases h <;> exact ⟨rfl, rfl, rfl⟩

/-- A generic I/O write is forwarded and changes nothing, or stores its byte (R169). -/
theorem execWrIo_next {a : Addr} {v : Byte} (h : execWrIo a v s = .next t) :
    done s s.blk .none [.extIoWrite a v] = .next t ∨ done s (s.blk.writeByte .io (byteOff a) v) = .next t := by
  unfold execWrIo at h
  split at h
  · exact .inl h
  · exact .inr h

/-- WR_LCDC turns the LCD off, turns it on, or leaves it as it is (R202). -/
theorem execWrLcdc_next {v : Byte} (h : execWrLcdc v s = .next t) :
    (lcdOnBit v = false ∧ done s (turnOff { s.blk with lcdc := v }) = .next t) ∨
      (s.blk.lcdOn = false ∧ lcdOnBit v = true ∧ done s (enterMode2 { s.blk with lcdc := v }) = .next t) ∨
      (lcdOnBit v = s.blk.lcdOn ∧ done s { s.blk with lcdc := v } = .next t) := by
  unfold execWrLcdc at h
  cases hon : s.blk.lcdOn <;> cases hv : lcdOnBit v <;> simp only [hon, hv] at h
  · exact .inr (.inr ⟨rfl, h⟩)
  · exact .inr (.inl ⟨rfl, rfl, h⟩)
  · exact .inl ⟨rfl, h⟩
  · exact .inr (.inr ⟨rfl, h⟩)

theorem execIrqReq_next {id : BitVec 3} (h : execIrqReq id s = .next t) :
    ∃ src, done s (requestInterrupt src s.blk) = .next t := by
  unfold execIrqReq at h
  split at h
  · exact ⟨_, h⟩
  · cases h

theorem execSpeedSwitch_next (h : execSpeedSwitch s = .next t) :
    done s { timerSync s.cfg s.blk with ds := !s.blk.ds, lastTimerCycle := s.blk.cycle } = .next t := by
  unfold execSpeedSwitch at h
  split at h
  · exact h
  · cases h

/-- WR_VBK stores its byte and, on CGB, selects its bank, which exists (R109, R157). -/
theorem execWrVbk_next {v : Byte} (h : execWrVbk v s = .next t) :
    ∃ bank, (bank = s.blk.vramBank ∨ bank < s.cfg.numVramBanks) ∧
      done s (mapBanks s.cfg { s.blk with vbk := v, vramBank := bank }) = .next t := by
  simp only [execWrVbk] at h
  split at h
  case isTrue hcgb =>
    refine ⟨vbkBank v, .inr ?_, h⟩
    rw [Cfg.numVramBanks, if_pos hcgb]
    exact (v.extractLsb' 0 1).isLt
  case isFalse => exact ⟨s.blk.vramBank, .inl rfl, h⟩

/-- WR_SVBK stores its byte and, on CGB, selects its bank, which exists and is not bank 0 (R109, R158). -/
theorem execWrSvbk_next {v : Byte} (h : execWrSvbk v s = .next t) :
    ∃ bank, (bank = s.blk.wramBank ∨ 1 ≤ bank ∧ bank < s.cfg.numWramBanks) ∧
      done s (mapBanks s.cfg { s.blk with svbk := v, wramBank := bank }) = .next t := by
  simp only [execWrSvbk] at h
  split at h
  case isTrue hcgb =>
    refine ⟨svbkBank v, .inr ?_, h⟩
    have hlt := (v.extractLsb' 0 3).isLt
    rw [Cfg.numWramBanks, if_pos hcgb, svbkBank]
    split <;> omega
  case isFalse => exact ⟨s.blk.wramBank, .inl rfl, h⟩

theorem execMbcRombank_next {n : Nat} (h : execMbcRombank n s = .next t) :
    n < s.cfg.numRomBanks ∧ done s (mapBanks s.cfg { s.blk with romBank := n }) = .next t := by
  unfold execMbcRombank at h
  split at h
  case isTrue hn => exact ⟨hn, h⟩
  case isFalse => cases h

theorem execMbcRambank_next {n : Nat} (h : execMbcRambank n s = .next t) :
    n < max s.cfg.numRamBanks 1 ∧ done s (mapBanks s.cfg { s.blk with ramBank := n }) = .next t := by
  unfold execMbcRambank at h
  split at h
  case isTrue hn => exact ⟨hn, h⟩
  case isFalse => cases h

/-- RESET answers the reset aggregate in a new session (R350). -/
theorem execReset_next (h : execReset s = .next t) :
    t.cfg = s.cfg ∧ t.blk = Block.reset s.cfg s.draws ∧ t.bootoffWritten = false := by
  cases h
  exact ⟨rfl, rfl, rfl⟩

/-- WR_BOOTOFF unmaps the overlay for the rest of the session (R159). -/
theorem execWrBootoff_next {v : Byte} (h : execWrBootoff v s = .next t) :
    t.cfg = s.cfg ∧ t.blk = mapBanks s.cfg { s.blk with bootoff := v, biosMapped := false } ∧
      t.bootoffWritten = true := by
  cases h
  exact ⟨rfl, rfl, rfl⟩

end Sys2Proof.Machine
end

section
/-! RESET establishes the reset table and the invariant (spec/10_state.md R54, R58; spec/70_reset_and_hazards.md
R350). -/

namespace Sys2Proof.Machine

/-- The reset aggregate meets the invariant of a new session under every legal configuration (R58). -/
theorem reset_inv {cfg : Cfg} (hcfg : cfgWf cfg) (draw : Nat) : (Block.reset cfg draw).Inv cfg false where
  clock := clockInv_of_latched rfl le_rfl
  display := lcdInv_congr (b := Block.reset Config.defaultCfg 0) rfl ⟨by decide, by decide, by decide, by decide⟩
  banks := by
    have hwram : 1 < cfg.numWramBanks := by unfold Cfg.numWramBanks; split <;> omega
    have hvram : 0 < cfg.numVramBanks := by unfold Cfg.numVramBanks; split <;> omega
    have hram : 0 < max cfg.numRamBanks 1 := Nat.lt_of_lt_of_le Nat.one_pos (le_max_right _ _)
    exact ⟨rfl, ⟨le_rfl, hwram, hvram, hcfg.1, hram⟩, fun hmapped => ⟨hmapped, rfl⟩, by
      simp [Block.showsBootoff, Block.reset]⟩
  stores := reset_memWf cfg cfg draw

/-- RESET establishes the invariant wherever the configuration is legal. -/
theorem execReset_inv {s t : State} (hcfg : cfgWf s.cfg) (h : execReset s = .next t) : t.inv := by
  obtain ⟨ht, hblk, hwritten⟩ := execReset_next h
  rw [inv_iff, ht, hblk, hwritten]
  exact ⟨hcfg, reset_inv hcfg s.draws⟩

theorem defaultCfg_wf : cfgWf Config.defaultCfg := by decide

/-- Settles O55: the reset aggregate meets the invariant under every legal configuration, the default one included. -/
theorem resetStateMeetsTheInvariant : Obligations.ResetStateMeetsTheInvariant :=
  ⟨(inv_iff _).mpr ⟨defaultCfg_wf, reset_inv defaultCfg_wf 0⟩, fun _ _ hcfg h => execReset_inv hcfg h⟩

/-- Settles O52: RESET answers the reset aggregate, whose registers are read off, with nothing listed in any store. -/
theorem resetEstablishesTheResetTable : Obligations.ResetEstablishesTheResetTable := by
  refine fun s => ⟨_, rfl, rfl, rfl, rfl, rfl, ⟨rfl, rfl, rfl, rfl⟩, ⟨rfl, rfl, rfl, rfl, rfl⟩, ⟨rfl, rfl, rfl, rfl⟩,
    ⟨rfl, rfl, rfl, rfl, rfl⟩, ⟨rfl, rfl, rfl⟩, rfl, ⟨rfl, rfl, rfl, rfl, rfl⟩, fun st => ?_⟩
  cases st <;> rfl

end Sys2Proof.Machine
end

section
/-! Every operation keeps the invariant, and so does every step (spec/10_state.md R54, R38; spec/20_memory.md R87). -/

namespace Sys2Proof.Machine

variable {s t : State} {b : Block}

/-- A completed operation keeps the machine's invariant if its aggregate meets the aggregate's. -/
theorem inv_of_done {r : Reply} {ps : List Pulse} (hs : s.inv) (h : done s b r ps = .next t)
    (hb : b.Inv s.cfg s.bootoffWritten) : t.inv := by
  obtain ⟨hcfg, -⟩ := (inv_iff s).mp hs
  rw [done_eq_next] at h
  subst h
  exact (inv_iff _).mpr ⟨hcfg, hb⟩

theorem execWrLcdc_inv {v : Byte} (hs : s.inv) (h : execWrLcdc v s = .next t) : t.inv := by
  obtain ⟨-, hb⟩ := (inv_iff s).mp hs
  obtain ⟨h3, h4, -, h9⟩ := hb.display
  rcases execWrLcdc_next h with ⟨hoff, h⟩ | ⟨hoff, hon, h⟩ | ⟨hsame, h⟩
  · exact inv_of_done hs h (hb.of_display (turnOff_besideDisplay _) (turnOff_lcdInv hoff))
  · have hly : s.blk.ly.toNat ≤ 143 := by simp [(h4 hoff).1]
    exact inv_of_done hs h (hb.of_display (enterMode2_besideDisplay _) (enterMode2_lcdInv hon h3 h9 hly))
  · exact inv_of_done hs h (hb.of_display rfl (lcdc_lcdInv hb.display hsame))

theorem execWrVbk_inv {v : Byte} (hs : s.inv) (h : execWrVbk v s = .next t) : t.inv := by
  obtain ⟨-, hb⟩ := (inv_iff s).mp hs
  obtain ⟨-, ⟨hwram1, hwram, hvram, hrom, hram⟩, h8, hsession⟩ := hb.banks
  obtain ⟨bank, hbank, h⟩ := execWrVbk_next h
  have hlt : bank < s.cfg.numVramBanks := hbank.elim (fun heq => heq ▸ hvram) id
  exact inv_of_done hs h (hb.remap rfl ⟨hwram1, hwram, hlt, hrom, hram⟩ h8 hsession)

theorem execWrSvbk_inv {v : Byte} (hs : s.inv) (h : execWrSvbk v s = .next t) : t.inv := by
  obtain ⟨-, hb⟩ := (inv_iff s).mp hs
  obtain ⟨-, ⟨hwram1, hwram, hrest⟩, h8, hsession⟩ := hb.banks
  obtain ⟨bank, hbank, h⟩ := execWrSvbk_next h
  have hrange : 1 ≤ bank ∧ bank < s.cfg.numWramBanks := hbank.elim (fun heq => heq ▸ ⟨hwram1, hwram⟩) id
  exact inv_of_done hs h (hb.remap rfl ⟨hrange.1, hrange.2, hrest⟩ h8 hsession)

theorem execMbcRombank_inv {n : Nat} (hs : s.inv) (h : execMbcRombank n s = .next t) : t.inv := by
  obtain ⟨-, hb⟩ := (inv_iff s).mp hs
  obtain ⟨-, ⟨hwram1, hwram, hvram, -, hram⟩, h8, hsession⟩ := hb.banks
  obtain ⟨hn, h⟩ := execMbcRombank_next h
  exact inv_of_done hs h (hb.remap rfl ⟨hwram1, hwram, hvram, hn, hram⟩ h8 hsession)

theorem execMbcRambank_inv {n : Nat} (hs : s.inv) (h : execMbcRambank n s = .next t) : t.inv := by
  obtain ⟨-, hb⟩ := (inv_iff s).mp hs
  obtain ⟨-, ⟨hwram1, hwram, hvram, hrom, -⟩, h8, hsession⟩ := hb.banks
  obtain ⟨hn, h⟩ := execMbcRambank_next h
  exact inv_of_done hs h (hb.remap rfl ⟨hwram1, hwram, hvram, hrom, hn⟩ h8 hsession)

/-- WR_BOOTOFF unmaps the overlay and counts the write into the session, as INV8 asks (log 13). -/
theorem execWrBootoff_inv {v : Byte} (hs : s.inv) (h : execWrBootoff v s = .next t) : t.inv := by
  obtain ⟨hcfg, hb⟩ := (inv_iff s).mp hs
  obtain ⟨-, h7, -⟩ := hb.banks
  obtain ⟨ht, hblk, hwritten⟩ := execWrBootoff_next h
  rw [inv_iff, ht, hblk, hwritten]
  exact ⟨hcfg, hb.remap rfl h7 (fun hmapped => absurd hmapped Bool.false_ne_true) fun _ => rfl⟩

/-- LOAD_STATE checks every part but the synchronised timer, which it establishes; what the snapshot shows of BOOTOFF
writes it counts into the session (R353, log 13). -/
theorem execLoadState_inv (hs : s.inv) (h : execLoadState b s = .next t) : t.inv := by
  obtain ⟨hcfg, -⟩ := (inv_iff s).mp hs
  obtain ⟨hlegal, rfl⟩ := (execLoadState_next b s t).mp h
  obtain ⟨-, h3, h4, h5, -, h7, h8, h9, hmem⟩ := (legal_iff _ _ _).mp hlegal
  refine (inv_iff _).mpr ⟨hcfg, clockInv_of_latched rfl (Nat.sub_le _ _), ⟨h3, h4, h5, h9⟩,
    ⟨rfl, h7, h8, fun hshows => ?_⟩, hmem⟩
  exact (congrArg (s.bootoffWritten || ·) hshows).trans (Bool.or_true _)

/-- Every well-formed operation keeps the invariant. -/
theorem exec_inv {i : Instr} (hwf : i.wellFormed = true) (hs : s.inv) (h : exec i s = .next t) : t.inv := by
  obtain ⟨hcfg, hb⟩ := (inv_iff s).mp hs
  cases i with
  | rdDiv | rdTma | rdTac | rdIf | rdLcdc | rdStat | rdLy | rdLyc | rdIe | rdHram _ | rdOam _ | rdUnused _ | rdEcho1 _
  | rdEcho0 _ | rdWramx _ | rdWram0 _ | rdVram _ | rdRomx _ | rdRom0 _ | wrUnused _ _ | wrRom _ _ | wrLy _ =>
    exact inv_of_done hs h hb
  | rdXram _ => exact inv_of_done hs (execRdXram_next h) hb
  | rdIo _ =>
    obtain ⟨ht, hblk, hwritten⟩ := execRdIo_next h
    rw [inv_iff, ht, hblk, hwritten]
    exact ⟨hcfg, hb⟩
  -- the timer and the clock
  | wrDiv _ =>
    obtain ⟨⟨htimer, -⟩, hsync⟩ := hb.clock
    exact inv_of_done hs h (hb.of_clock rfl ⟨⟨htimer, le_rfl⟩, hsync⟩)
  | rdTima => exact inv_of_done hs h hb.after_timerSync
  | wrTima _ | wrTma _ => exact inv_of_done hs h (hb.after_timerSync.of_clock rfl hb.after_timerSync.clock)
  | wrTac v => exact inv_of_done hs h (hb.after_timerSync.after_latch v _ (timerSync_cycle _ _).symm)
  | speedSwitch =>
    exact inv_of_done hs (execSpeedSwitch_next h) (hb.after_timerSync.after_latch _ _ (timerSync_cycle _ _).symm)
  | tick n => exact inv_of_done hs h (hb.after_cycles n)
  -- the interrupt controller, whose registers no part speaks of
  | wrIf _ | wrIe _ | brkClr => exact inv_of_done hs h (hb.of_clock rfl hb.clock)
  | irqReq _ =>
    obtain ⟨src, h⟩ := execIrqReq_next h
    exact inv_of_done hs h (hb.of_clock rfl hb.clock)
  | irqAck => exact inv_of_done hs h hb.after_acknowledge
  -- the display
  | wrLcdc _ => exact execWrLcdc_inv hs h
  | wrStat v => exact inv_of_done hs h (hb.of_display rfl (statWritten_lcdInv hb.display v))
  | wrLyc _ =>
    obtain ⟨-, h4, h5, h9⟩ := hb.display
    exact inv_of_done hs h (hb.of_display (lycCheck_besideDisplay _) (lycCheck_lcdInv h4 h5 h9))
  -- the memories
  | wrVram a v | wrWram0 a v | wrWramx a v | wrEcho0 a v => exact inv_of_done hs h (hb.after_tableWrite a v)
  | wrXram a v => exact inv_of_done hs (execWrXram_next h) (hb.after_tableWrite a v)
  | wrEcho1 a v => exact inv_of_done hs h (hb.after_echo1Write a v)
  | wrHram _ v => exact inv_of_done hs h (hb.after_writeByte (hramOff_lt hwf) v)
  | wrOam _ v => exact inv_of_done hs h (hb.after_writeByte (oamOff_lt hwf) v)
  | wrIo _ v =>
    rcases execWrIo_next h with h | h
    · exact inv_of_done hs h hb
    · exact inv_of_done hs h (hb.after_writeByte (ioOff_lt hwf) v)
  -- the banks and the system
  | wrVbk _ => exact execWrVbk_inv hs h
  | wrSvbk _ => exact execWrSvbk_inv hs h
  | mbcRombank _ => exact execMbcRombank_inv hs h
  | mbcRambank _ => exact execMbcRambank_inv hs h
  | mbcRamen _ =>
    obtain ⟨-, h7, h8, hsession⟩ := hb.banks
    exact inv_of_done hs h (hb.remap rfl h7 h8 hsession)
  | wrBootoff _ => exact execWrBootoff_inv hs h
  | reset => exact execReset_inv hcfg h
  | loadState _ => exact execLoadState_inv hs h

/-- Settles O56: a step waits, or performs an operation that the decoder answered and that is therefore well formed. -/
theorem stepKeepsTheInvariant : Obligations.StepKeepsTheInvariant := by
  intro s t hs h
  rcases step_next h with ⟨-, rfl⟩ | ⟨w, rest, i, -, hd, he⟩
  · exact hs
  · exact exec_inv (s := { s with port := rest }) (decode_wellFormed hd) hs he

end Sys2Proof.Machine
end

section
/-! Which operation changes a bank index, `ramEnabled`, the speed or the boot overlay (spec/10_state.md R44 to R50;
spec/70_reset_and_hazards.md R350). -/

namespace Sys2Proof.Machine

variable {s t : State}

/-! ### The operations that keep the bank state -/

/-- The bank state and the session of `t` are those of `s`. -/
def banksKept (s t : State) : Prop := t.blk.bankPart = s.blk.bankPart ∧ t.bootoffWritten = s.bootoffWritten

theorem banksKept_of_done {b : Block} {r : Reply} {ps : List Pulse} (h : done s b r ps = .next t)
    (hb : b.bankPart = s.blk.bankPart) : banksKept s t := by
  rw [done_eq_next] at h
  subst h
  exact ⟨hb, rfl⟩

theorem banksKept_of_besideClock {b : Block} {r : Reply} {ps : List Pulse} (h : done s b r ps = .next t)
    (hb : b.besideClock = s.blk.besideClock) : banksKept s t :=
  banksKept_of_done h (congrArg (·.2.1) hb)

theorem banksKept_of_besideDisplay {b : Block} {r : Reply} {ps : List Pulse} (h : done s b r ps = .next t)
    (hb : b.besideDisplay = s.blk.besideDisplay) : banksKept s t :=
  banksKept_of_done h (congrArg (·.2.1) hb)

theorem banksKept_of_besideStores {b : Block} {r : Reply} {ps : List Pulse} (h : done s b r ps = .next t)
    (hb : b.besideStores = s.blk.besideStores) : banksKept s t :=
  banksKept_of_done h (congrArg (·.2.2) hb)

/-- Passing time keeps the bank state (R281). -/
theorem cycles_bankPart (cfg : Cfg) (n : Nat) (b : Block) : (cycles cfg n b).1.bankPart = b.bankPart := by
  induction n generalizing b with
  | zero => rfl
  | succ n ih =>
    calc (cycles cfg (n + 1) b).1.bankPart
        = (cycleStep cfg b).1.bankPart := ih _
      _ = (timerSync cfg b.countCycle).bankPart := congrArg (·.2.1) (lcdStep_besideDisplay _)
      _ = b.bankPart := congrArg (·.2.1) (timerSync_besideClock cfg b.countCycle)

/-- The operations that may change the bank state or the session (R44 to R50, R350, R353). -/
def mayChangeBanks : Instr → Bool
  | .wrVbk _ | .wrSvbk _ | .wrBootoff _ | .mbcRombank _ | .mbcRambank _ | .mbcRamen _ => true
  | .speedSwitch | .reset | .loadState _ => true
  | _ => false

theorem exec_banksKept {i : Instr} (hi : mayChangeBanks i = false) (h : exec i s = .next t) : banksKept s t := by
  cases i with
  | wrVbk | wrSvbk | wrBootoff | mbcRombank | mbcRambank | mbcRamen | speedSwitch | reset | loadState =>
    exact absurd hi (by simp [mayChangeBanks])
  | rdDiv | rdTma | rdTac | rdIf | rdLcdc | rdStat | rdLy | rdLyc | rdIe | rdHram _ | rdOam _ | rdUnused _ | rdEcho1 _
  | rdEcho0 _ | rdWramx _ | rdWram0 _ | rdVram _ | rdRomx _ | rdRom0 _ | wrUnused _ _ | wrRom _ _ | wrLy _ =>
    exact banksKept_of_done h rfl
  | rdXram _ => exact banksKept_of_done (execRdXram_next h) rfl
  | rdIo _ =>
    obtain ⟨-, hblk, hwritten⟩ := execRdIo_next h
    exact ⟨congrArg Block.bankPart hblk, hwritten⟩
  -- the timer and the clock
  | wrDiv _ => exact banksKept_of_done h rfl
  | rdTima | wrTima _ | wrTma _ | wrTac _ => exact banksKept_of_besideClock h (timerSync_besideClock s.cfg s.blk)
  | tick n => exact banksKept_of_done h (cycles_bankPart s.cfg n s.blk)
  -- the interrupt controller
  | wrIf _ | wrIe _ | brkClr => exact banksKept_of_done h rfl
  | irqReq _ =>
    obtain ⟨src, h⟩ := execIrqReq_next h
    exact banksKept_of_done h rfl
  | irqAck => exact banksKept_of_done h ((congrArg Block.bankPart (acknowledge_frame s.blk)).trans rfl)
  -- the display
  | wrLcdc _ =>
    rcases execWrLcdc_next h with ⟨-, h⟩ | ⟨-, -, h⟩ | ⟨-, h⟩
    · exact banksKept_of_besideDisplay h (turnOff_besideDisplay _)
    · exact banksKept_of_besideDisplay h (enterMode2_besideDisplay _)
    · exact banksKept_of_done h rfl
  | wrStat _ => exact banksKept_of_done h rfl
  | wrLyc _ => exact banksKept_of_besideDisplay h (lycCheck_besideDisplay _)
  -- the memories
  | wrVram a v | wrWram0 a v | wrWramx a v | wrEcho0 a v =>
    exact banksKept_of_besideStores h (tableWrite_besideStores s.blk a v)
  | wrXram a v => exact banksKept_of_besideStores (execWrXram_next h) (tableWrite_besideStores s.blk a v)
  | wrEcho1 _ v => exact banksKept_of_besideStores h (cellWrite_besideStores s.blk _ v)
  | wrHram _ v | wrOam _ v => exact banksKept_of_besideStores h (writeByte_besideStores s.blk _ _ v)
  | wrIo _ v =>
    rcases execWrIo_next h with h | h
    · exact banksKept_of_done h rfl
    · exact banksKept_of_besideStores h (writeByte_besideStores s.blk _ _ v)

/-! ### The operations that change it -/

/-- What `t` has of the bank state and of the session is what `s` had, or `i` is the operation that owns it (R44 to
R50). -/
def banksOwned (i : Instr) (s t : State) : Prop :=
  (t.blk.romBank = s.blk.romBank ∨ ∃ n, i = .mbcRombank n) ∧
  (t.blk.ramBank = s.blk.ramBank ∨ ∃ n, i = .mbcRambank n) ∧
  (t.blk.ramEnabled = s.blk.ramEnabled ∨ ∃ b, i = .mbcRamen b) ∧
  (t.blk.wramBank = s.blk.wramBank ∨ ∃ v, i = .wrSvbk v) ∧
  (t.blk.vramBank = s.blk.vramBank ∨ ∃ v, i = .wrVbk v) ∧
  (t.blk.ds = s.blk.ds ∨ i = .speedSwitch) ∧
  ((t.blk.biosMapped = s.blk.biosMapped ∧ t.bootoffWritten = s.bootoffWritten) ∨ ∃ v, i = .wrBootoff v)

theorem banksOwned_of_kept {i : Instr} (h : banksKept s t) : banksOwned i s t := by
  obtain ⟨hbanks, hwritten⟩ := h
  simp only [Block.bankPart, Prod.mk.injEq] at hbanks
  obtain ⟨hbios, hrom, hram, hen, hwram, hvram, hds, -⟩ := hbanks
  exact ⟨.inl hrom, .inl hram, .inl hen, .inl hwram, .inl hvram, .inl hds, .inl ⟨hbios, hwritten⟩⟩

/-- Every operation but RESET and LOAD_STATE changes its own part of the bank state only. -/
theorem exec_banksOwned {i : Instr} (h : exec i s = .next t) (hreset : i ≠ .reset) (hload : ∀ b, i ≠ .loadState b) :
    banksOwned i s t := by
  cases i with
  | reset => exact absurd rfl hreset
  | loadState b => exact absurd rfl (hload b)
  | mbcRombank n =>
    obtain ⟨-, h⟩ := execMbcRombank_next h
    cases h
    exact ⟨.inr ⟨n, rfl⟩, .inl rfl, .inl rfl, .inl rfl, .inl rfl, .inl rfl, .inl ⟨rfl, rfl⟩⟩
  | mbcRambank n =>
    obtain ⟨-, h⟩ := execMbcRambank_next h
    cases h
    exact ⟨.inl rfl, .inr ⟨n, rfl⟩, .inl rfl, .inl rfl, .inl rfl, .inl rfl, .inl ⟨rfl, rfl⟩⟩
  | mbcRamen en =>
    cases h
    exact ⟨.inl rfl, .inl rfl, .inr ⟨en, rfl⟩, .inl rfl, .inl rfl, .inl rfl, .inl ⟨rfl, rfl⟩⟩
  | wrSvbk v =>
    obtain ⟨bank, -, h⟩ := execWrSvbk_next h
    cases h
    exact ⟨.inl rfl, .inl rfl, .inl rfl, .inr ⟨v, rfl⟩, .inl rfl, .inl rfl, .inl ⟨rfl, rfl⟩⟩
  | wrVbk v =>
    obtain ⟨bank, -, h⟩ := execWrVbk_next h
    cases h
    exact ⟨.inl rfl, .inl rfl, .inl rfl, .inl rfl, .inr ⟨v, rfl⟩, .inl rfl, .inl ⟨rfl, rfl⟩⟩
  | speedSwitch =>
    cases execSpeedSwitch_next h
    exact ⟨.inl (timerSync_romBank _ _), .inl (timerSync_ramBank _ _), .inl (timerSync_ramEnabled _ _),
      .inl (timerSync_wramBank _ _), .inl (timerSync_vramBank _ _), .inr rfl, .inl ⟨timerSync_biosMapped _ _, rfl⟩⟩
  | wrBootoff v =>
    cases h
    exact ⟨.inl rfl, .inl rfl, .inl rfl, .inl rfl, .inl rfl, .inl rfl, .inr ⟨v, rfl⟩⟩
  | _ => exact banksOwned_of_kept (exec_banksKept rfl h)

/-! ### The boot overlay -/

/-- LOAD_STATE in a state with the invariant never maps the overlay again: the snapshot is loaded with it active only
if no BOOTOFF write is known, and then it is active already where there is a boot ROM (log 13). -/
theorem execLoadState_keeps_unmapped {b : Block} (hs : s.inv) (h : execLoadState b s = .next t)
    (hmapped : t.blk.biosMapped = true) : s.blk.biosMapped = true := by
  obtain ⟨-, -, hsession, -⟩ := hs
  obtain ⟨hwritten, -⟩ := execLoadState_biosMapped h hmapped
  obtain ⟨hlegal, rfl⟩ := (execLoadState_next b s t).mp h
  obtain ⟨-, -, -, -, -, -, h8, -⟩ := (legal_iff _ _ _).mp hlegal
  obtain ⟨hpresent, -⟩ := h8 hmapped
  by_contra hunmapped
  have hshows : s.blk.showsBootoff s.cfg = true := by
    simp [Block.showsBootoff, hpresent, Bool.eq_false_iff.mpr hunmapped]
  exact Bool.false_ne_true (hwritten.symm.trans (hsession hshows))

/-- LOAD_STATE forgets no BOOTOFF write (log 13). -/
theorem execLoadState_keeps_written {b : Block} (h : execLoadState b s = .next t) (hs : s.bootoffWritten = true) :
    t.bootoffWritten = true := by
  obtain ⟨-, rfl⟩ := (execLoadState_next b s t).mp h
  simp [writtenOnLoad, hs]

/-- Settles O40: the parts of the bank state by their owners; for the overlay, WR_BOOTOFF unmaps it and LOAD_STATE does
not map it again. -/
theorem bankStateChangesOnlyByItsOwnOperation : Obligations.BankStateChangesOnlyByItsOwnOperation := by
  intro i s t h hreset
  by_cases hload : ∃ b, i = .loadState b
  · obtain ⟨b, rfl⟩ := hload
    exact ⟨fun hs => execLoadState_keeps_unmapped (hs.resolve_right fun hne => hne b rfl) h,
      execLoadState_keeps_written h, fun hne => absurd rfl (hne b)⟩
  · have howned := exec_banksOwned h hreset fun b hb => hload ⟨b, hb⟩
    have ⟨_, _, _, _, _, _, hoverlay⟩ := howned
    rcases hoverlay with ⟨hbios, hwritten⟩ | ⟨v, rfl⟩
    · exact ⟨fun _ hm => hbios ▸ hm, fun hw => hwritten.trans hw, fun _ => howned⟩
    · obtain ⟨-, hblk, hwritten⟩ := execWrBootoff_next h
      refine ⟨fun _ hm => ?_, fun _ => hwritten, fun _ => howned⟩
      rw [hblk] at hm
      exact absurd hm Bool.false_ne_true

end Sys2Proof.Machine
end

section
/-! The decoder reads an operation's word as that operation (spec/30_encoding.md R102, R103, R105): the first row of the
BUS map that reaches an interval of words is found by comparing the intervals' bounds. -/

namespace Sys2Proof

/-! ### The words of an address (R101) -/

theorem toNat_append_addr (rw : BitVec 1) (a : Addr) : (rw ++ a : BusWord).toNat = rw.toNat * 0x10000 + a.toNat := by
  refine (BitVec.toNat_append rw a).trans ?_
  rw [← Nat.shiftLeft_add_eq_or_of_lt a.isLt, Nat.shiftLeft_eq]

@[simp] theorem busAddr_append (rw : BitVec 1) (a : Addr) : busAddr (rw ++ a) = a := by
  rw [← BitVec.toNat_inj, busAddr_toNat, toNat_append_addr]
  omega

/-! ### The row that comes first (R102) -/

/-- The rows of the BUS map by number, from 0. -/
abbrev busRow (k : Fin 48) : BusRow := busTable[k.val]'k.isLt

/-- The row selects no word of the interval, or a single word of an address in `own`. -/
abbrev BusRow.misses (lo hi : Nat) (own : List Addr) (r : BusRow) : Prop :=
  r.value.toNat + (0x20000 - r.mask.toNat) ≤ lo ∨ hi < r.value.toNat ∨
    r.mask = BitVec.allOnes 17 ∧ busAddr r.value ∈ own

/-- Row `k` selects every word of the interval, and the rows before it miss the interval. -/
abbrev comesFirst (k : Fin 48) (lo hi : Nat) (own : List Addr) : Prop :=
  (busRow k).value.toNat ≤ lo ∧ hi < (busRow k).value.toNat + (0x20000 - (busRow k).mask.toNat) ∧
    ∀ q ∈ busTable.take k, q.misses lo hi own

variable {k : Fin 48} {lo hi : Nat} {own : List Addr}

theorem BusRow.not_selects_of_misses {r : BusRow} (hr : r ∈ busTable) (hmiss : r.misses lo hi own) {word : BusWord}
    (hlo : lo ≤ word.toNat) (hhi : word.toNat ≤ hi) (hown : busAddr word ∉ own) : ¬ r.selects word = true := by
  intro hsel
  obtain ⟨hge, hlt⟩ := (BusRow.selects_iff hr word).mp hsel
  rcases hmiss with habove | hbelow | ⟨hmask, hmem⟩
  · omega
  · omega
  · rw [BusRow.selects, hmask, BitVec.and_allOnes, beq_iff_eq] at hsel
    exact hown (hsel ▸ hmem)

/-- A word of the interval decodes to the operation of the row that comes first there. -/
theorem decodeBus_of_comesFirst (h : comesFirst k lo hi own) {word : BusWord} (hlo : lo ≤ word.toNat)
    (hhi : word.toNat ≤ hi) (hown : busAddr word ∉ own) (v : Byte) :
    decodeBus word v = .instr ((busRow k).build (busAddr word) v) := by
  obtain ⟨hfrom, hto, hbefore⟩ := h
  have hsel : (busRow k).selects word = true :=
    (BusRow.selects_iff (List.getElem_mem k.isLt) word).mpr ⟨hfrom.trans hlo, hhi.trans_lt hto⟩
  have hfind : busTable.find? (·.selects word) = some (busRow k) := by
    refine List.find?_eq_some_iff_append.mpr ⟨hsel, busTable.take k, busTable.drop (k + 1), ?_, fun q hq => ?_⟩
    · exact (List.take_append_drop k busTable).symm.trans (congrArg _ (List.getElem_cons_drop k.isLt).symm)
    · simpa using BusRow.not_selects_of_misses (List.mem_of_mem_take hq) (hbefore q hq) hlo hhi hown
  simp only [decodeBus, hfind]

theorem decode_busRead_of_comesFirst {a : Addr} (h : comesFirst k lo hi own) (ha : inRange lo hi a = true)
    (hown : a ∉ own) : decode (busRead a) = .instr ((busRow k).build a 0) := by
  simp only [inRange, Bool.and_eq_true, decide_eq_true_eq] at ha
  have hword : (0#1 ++ a : BusWord).toNat = a.toNat := (toNat_append_addr 0#1 a).trans (by simp)
  have hd := decodeBus_of_comesFirst h (word := 0#1 ++ a) (by omega) (by omega) (by rwa [busAddr_append]) 0
  rwa [busAddr_append] at hd

theorem decode_busWrite_of_comesFirst {a : Addr} (h : comesFirst k (0x10000 + lo) (0x10000 + hi) own)
    (ha : inRange lo hi a = true) (hown : a ∉ own) (v : Byte) :
    decode (busWrite a v) = .instr ((busRow k).build a v) := by
  simp only [inRange, Bool.and_eq_true, decide_eq_true_eq] at ha
  have hword : (1#1 ++ a : BusWord).toNat = 0x10000 + a.toNat := (toNat_append_addr 1#1 a).trans (by simp)
  have hd := decodeBus_of_comesFirst h (word := 1#1 ++ a) (by omega) (by omega) (by rwa [busAddr_append]) v
  rwa [busAddr_append] at hd

theorem decode_busRead_of_range {a : Addr} (h : comesFirst k lo hi []) (ha : inRange lo hi a = true) :
    decode (busRead a) = .instr ((busRow k).build a 0) :=
  decode_busRead_of_comesFirst h ha List.not_mem_nil

theorem decode_busWrite_of_range {a : Addr} (h : comesFirst k (0x10000 + lo) (0x10000 + hi) [])
    (ha : inRange lo hi a = true) (v : Byte) : decode (busWrite a v) = .instr ((busRow k).build a v) :=
  decode_busWrite_of_comesFirst h ha List.not_mem_nil v

/-- An interval of addresses in two parts. -/
theorem inRange_split (m : Nat) {a : Addr} (h : inRange lo hi a = true) :
    inRange lo m a = true ∨ inRange (m + 1) hi a = true := by
  simp only [inRange, Bool.and_eq_true, decide_eq_true_eq] at h ⊢
  omega

/-- An interval of addresses except those with a row of their own. -/
theorem inRange_except_iff {a : Addr} :
    (inRange lo hi a && !own.contains a) = true ↔ inRange lo hi a = true ∧ a ∉ own := by
  simp

/-- The decoder reads the word of a well-formed operation as that operation. -/
theorem decode_encode {i : Instr} (h : i.wellFormed = true) : decode (encode i) = .instr i := by
  cases i with
  -- rows of a single word, and the events
  | wrDiv | wrTima | wrTma | wrTac | wrIf | wrLcdc | wrStat | wrLy | wrLyc | wrVbk | wrBootoff | wrSvbk | wrIe | rdDiv
  | rdTima | rdTma | rdTac | rdIf | rdLcdc | rdStat | rdLy | rdLyc | rdIe | tick | irqReq | irqAck | brkClr
  | speedSwitch | mbcRombank | mbcRambank | mbcRamen | reset | loadState => rfl
  -- rows of a range of words, numbered from 0
  | wrHram a v => exact decode_busWrite_of_range (k := 13) (by decide) h v
  | wrIo a v =>
    obtain ⟨hrange, hown⟩ := inRange_except_iff.mp h
    exact decode_busWrite_of_comesFirst (k := 14) (by decide) hrange hown v
  | wrOam a v =>
    rcases inRange_split 0xFE7F h with h | h
    · exact decode_busWrite_of_range (k := 15) (by decide) h v
    · exact decode_busWrite_of_range (k := 16) (by decide) h v
  | wrUnused a v => exact decode_busWrite_of_range (k := 17) (by decide) h v
  | wrEcho1 a v => exact decode_busWrite_of_range (k := 18) (by decide) h v
  | wrEcho0 a v => exact decode_busWrite_of_range (k := 19) (by decide) h v
  | wrWramx a v => exact decode_busWrite_of_range (k := 20) (by decide) h v
  | wrWram0 a v => exact decode_busWrite_of_range (k := 21) (by decide) h v
  | wrXram a v => exact decode_busWrite_of_range (k := 22) (by decide) h v
  | wrVram a v => exact decode_busWrite_of_range (k := 23) (by decide) h v
  | wrRom a v => exact decode_busWrite_of_range (k := 24) (by decide) h v
  | rdHram a => exact decode_busRead_of_range (k := 35) (by decide) h
  | rdIo a =>
    obtain ⟨hrange, hown⟩ := inRange_except_iff.mp h
    exact decode_busRead_of_comesFirst (k := 36) (by decide) hrange hown
  | rdOam a =>
    rcases inRange_split 0xFE7F h with h | h
    · exact decode_busRead_of_range (k := 37) (by decide) h
    · exact decode_busRead_of_range (k := 38) (by decide) h
  | rdUnused a => exact decode_busRead_of_range (k := 39) (by decide) h
  | rdEcho1 a => exact decode_busRead_of_range (k := 40) (by decide) h
  | rdEcho0 a => exact decode_busRead_of_range (k := 41) (by decide) h
  | rdWramx a => exact decode_busRead_of_range (k := 42) (by decide) h
  | rdWram0 a => exact decode_busRead_of_range (k := 43) (by decide) h
  | rdXram a => exact decode_busRead_of_range (k := 44) (by decide) h
  | rdVram a => exact decode_busRead_of_range (k := 45) (by decide) h
  | rdRomx a => exact decode_busRead_of_range (k := 46) (by decide) h
  | rdRom0 a => exact decode_busRead_of_range (k := 47) (by decide) h

end Sys2Proof
end

section
/-! What a bus read returns after a bus write, and what the bus does at an address that reaches nothing
(spec/20_memory.md R71, R80, R83; spec/40_mmu_bank_page_table.md R130 to R137). -/

namespace Sys2Proof.Machine

variable {s : State} {cfg : Cfg} {b : Block} {a : Addr} {v : Byte}

/-! ### The bus port performs the operation whose word it presents (R136, R137) -/

theorem memRead_eq_exec {r : Instr} (hwf : r.wellFormed = true) (hword : encode r = busRead a) (s : State) :
    memRead a s = exec r s :=
  performWord_of_decode_instr (hword ▸ decode_encode hwf) s

theorem memWrite_eq_exec {w : Instr} (hwf : w.wellFormed = true) (hword : encode w = busWrite a v) (s : State) :
    memWrite a v s = exec w s :=
  performWord_of_decode_instr (hword ▸ decode_encode hwf) s

/-! ### External RAM and generic I/O under their guards (R145, R163) -/

theorem execRdXram_of_unclaimed (h : s.cfg.cartridgeWindow = false) :
    execRdXram a s = answerByte s (tableRead s.cfg s.blk a) := by
  simp [execRdXram, h]

theorem execWrXram_of_unclaimed (h : s.cfg.cartridgeWindow = false) :
    execWrXram a v s = done s (tableWrite s.blk a v) := by
  simp [execWrXram, h]

theorem execRdIo_of_not_delegated (h : delegated s.cfg a = false) :
    execRdIo a s = answerByte s (ioRead s.blk a) := by
  simp [execRdIo, h]

theorem execWrIo_of_not_delegated (h : delegated s.cfg a = false) :
    execWrIo a v s = done s (s.blk.writeByte .io (byteOff a) v) := by
  simp [execWrIo, h]

/-! ### The current page table, page by page (R130, R131) -/

/-- With the page table current, an address's entry is the one `mapBanks()` gives its page (INV6). -/
theorem entryOf_of_page (h6 : b.inv6 cfg) (p : Fin 16)
    (ha : inRange (p.val * 0x1000) (p.val * 0x1000 + 0xFFF) a = true) :
    b.entryOf a = (mapBanks cfg b).pageTable[p] := by
  simp only [inRange, Bool.and_eq_true, decide_eq_true_eq] at ha
  have hp : pageOf a = p := Fin.ext (show a.toNat / 0x1000 = p.val by omega)
  subst hp
  exact congrArg (·[pageOf a]) h6

theorem entryOf_vram (h6 : b.inv6 cfg) (ha : inRange 0x8000 0x9FFF a = true) :
    ∃ half, b.entryOf a = .vram b.vramBank half := by
  rcases inRange_split 0x8FFF ha with h | h
  · exact ⟨0, entryOf_of_page h6 8 h⟩
  · exact ⟨1, entryOf_of_page h6 9 h⟩

theorem entryOf_xram (h6 : b.inv6 cfg) (ha : inRange 0xA000 0xBFFF a = true) :
    ∃ half, b.entryOf a = if xramMapped cfg b.ramEnabled then .xram b.ramBank half else .unmapped := by
  rcases inRange_split 0xAFFF ha with h | h
  · exact ⟨0, entryOf_of_page h6 0xA h⟩
  · exact ⟨1, entryOf_of_page h6 0xB h⟩

theorem entryOf_wram0 (h6 : b.inv6 cfg) (ha : inRange 0xC000 0xCFFF a = true) : b.entryOf a = .wram 0 :=
  entryOf_of_page h6 0xC ha

theorem entryOf_wramx (h6 : b.inv6 cfg) (ha : inRange 0xD000 0xDFFF a = true) : b.entryOf a = .wram b.wramBank :=
  entryOf_of_page h6 0xD ha

theorem entryOf_echo0 (h6 : b.inv6 cfg) (ha : inRange 0xE000 0xEFFF a = true) :
    b.entryOf a = if cfg.echoMode = .mirror then .wram 0 else .unmapped :=
  entryOf_of_page h6 0xE ha

/-! ### A read of the page table or of a cell after a write of it (R133) -/

theorem pageRead_of_cell {e : PageEntry} {off i : Nat} {st : Store} (h : e.cell off = some (st, i)) :
    pageRead cfg b e off = b.byteOf st i := by
  cases e <;> simp_all [pageRead, PageEntry.cell]

theorem writeByte_entryOf (b : Block) (st : Store) (i : Nat) (v : Byte) (a : Addr) :
    (b.writeByte st i v).entryOf a = b.entryOf a := by
  rw [writeByte_frame]
  rfl

theorem byteOf_writeByte_same (b : Block) (st : Store) (i : Nat) (v : Byte) : (b.writeByte st i v).byteOf st i = v := by
  simp [byteOf_writeByte]

/-- Where the address's entry denotes a writable byte, a read through the table returns the byte written through it. -/
theorem tableRead_tableWrite {c : Store × Nat} (hc : (b.entryOf a).cell (pageOff a) = some c) (v : Byte) :
    tableRead cfg (tableWrite b a v) a = v := by
  rw [tableWrite, pageWrite, hc, tableRead, writeByte_entryOf, pageRead_of_cell hc, byteOf_writeByte_same]

theorem ioRead_writeByte (h : a ∉ ownWriteRow) (v : Byte) : ioRead (b.writeByte .io (byteOff a) v) a = v := by
  have hvbk : a ≠ 0xFF4F := fun ha => h (ha ▸ by decide)
  have hbootoff : a ≠ 0xFF50 := fun ha => h (ha ▸ by decide)
  have hsvbk : a ≠ 0xFF70 := fun ha => h (ha ▸ by decide)
  rw [ioRead, if_neg hvbk, if_neg hbootoff, if_neg hsvbk, byteOf_writeByte_same]

theorem echo1Cell_of_mirror (h : cfg.echoMode = .mirror) (b : Block) (a : Addr) :
    echo1Cell cfg b a = some (.wram, b.wramBank * 0x1000 + pageOff a) := if_pos h

theorem cellRead_cellWrite_echo1 (h : cfg.echoMode = .mirror) (b : Block) (a : Addr) (v : Byte) :
    cellRead (cellWrite b (echo1Cell cfg b a) v) (echo1Cell cfg (cellWrite b (echo1Cell cfg b a) v) a) = v := by
  rw [echo1Cell_of_mirror h, echo1Cell_of_mirror h]
  exact byteOf_writeByte_same b .wram _ v

/-! ### A bus read right after a bus write of plain storage -/

/-- The bus returns `v` at `a` right after a bus write of it there, and that read changes nothing. -/
def readsBack (s : State) (a : Addr) (v : Byte) : Prop :=
  ∃ t, memWrite a v s = .next t ∧ memRead a t = .next { t with out := ⟨.rdata v, []⟩ }

/-- The address has a write row that leaves the aggregate `c`, and a read row that then answers `v`. -/
theorem readsBack_of_exec {w r : Instr} {c : Block} {x : Byte} (hwwf : w.wellFormed = true)
    (hrwf : r.wellFormed = true) (hwrite : encode w = busWrite a v) (hread : encode r = busRead a)
    (hw : exec w s = done s c) (hr : exec r (s.complete c .none []) = answerByte (s.complete c .none []) x)
    (hx : x = v) : readsBack s a v := by
  subst hx
  exact ⟨_, (memWrite_eq_exec hwwf hwrite s).trans hw, (memRead_eq_exec hrwf hread _).trans hr⟩

theorem readsBack_vram (h6 : s.blk.inv6 s.cfg) (ha : inRange 0x8000 0x9FFF a = true) : readsBack s a v := by
  obtain ⟨half, he⟩ := entryOf_vram h6 ha
  exact readsBack_of_exec (w := .wrVram a v) (r := .rdVram a) ha ha rfl rfl rfl rfl
    (tableRead_tableWrite (by rw [he]; rfl) v)

theorem readsBack_xram (h6 : s.blk.inv6 s.cfg) (ha : inRange 0xA000 0xBFFF a = true)
    (hmapped : xramMapped s.cfg s.blk.ramEnabled = true) (hfree : s.cfg.cartridgeWindow = false) :
    readsBack s a v := by
  obtain ⟨half, he⟩ := entryOf_xram h6 ha
  exact readsBack_of_exec (w := .wrXram a v) (r := .rdXram a) ha ha rfl rfl (execWrXram_of_unclaimed hfree)
    (execRdXram_of_unclaimed hfree) (tableRead_tableWrite (by rw [he, if_pos hmapped]; rfl) v)

theorem readsBack_wram (h6 : s.blk.inv6 s.cfg) (ha : inRange 0xC000 0xDFFF a = true) : readsBack s a v := by
  rcases inRange_split 0xCFFF ha with h | h
  · exact readsBack_of_exec (w := .wrWram0 a v) (r := .rdWram0 a) h h rfl rfl rfl rfl
      (tableRead_tableWrite (by rw [entryOf_wram0 h6 h]; rfl) v)
  · exact readsBack_of_exec (w := .wrWramx a v) (r := .rdWramx a) h h rfl rfl rfl rfl
      (tableRead_tableWrite (by rw [entryOf_wramx h6 h]; rfl) v)

theorem readsBack_echo (h6 : s.blk.inv6 s.cfg) (ha : inRange 0xE000 0xFDFF a = true)
    (hmirror : s.cfg.echoMode = .mirror) : readsBack s a v := by
  rcases inRange_split 0xEFFF ha with h | h
  · exact readsBack_of_exec (w := .wrEcho0 a v) (r := .rdEcho0 a) h h rfl rfl rfl rfl
      (tableRead_tableWrite (by rw [entryOf_echo0 h6 h, if_pos hmirror]; rfl) v)
  · exact readsBack_of_exec (w := .wrEcho1 a v) (r := .rdEcho1 a) h h rfl rfl rfl rfl
      (cellRead_cellWrite_echo1 hmirror _ a v)

theorem readsBack_oam (ha : inRange 0xFE00 0xFE9F a = true) : readsBack s a v :=
  readsBack_of_exec (w := .wrOam a v) (r := .rdOam a) ha ha rfl rfl rfl rfl
    (byteOf_writeByte_same s.blk .oam (byteOff a) v)

theorem readsBack_io (ha : inRange 0xFF00 0xFF7F a = true) (hown : a ∉ ownWriteRow)
    (hplain : delegated s.cfg a = false) : readsBack s a v := by
  have hownRead : a ∉ ownReadRow := fun h => hown (List.mem_append_left _ h)
  exact readsBack_of_exec (w := .wrIo a v) (r := .rdIo a) (inRange_except_iff.mpr ⟨ha, hown⟩)
    (inRange_except_iff.mpr ⟨ha, hownRead⟩) rfl rfl (execWrIo_of_not_delegated hplain)
    (execRdIo_of_not_delegated hplain) (ioRead_writeByte hown v)

theorem readsBack_hram (ha : inRange 0xFF80 0xFFFE a = true) : readsBack s a v :=
  readsBack_of_exec (w := .wrHram a v) (r := .rdHram a) ha ha rfl rfl rfl rfl
    (byteOf_writeByte_same s.blk .hram (hramOff a) v)

/-- Settles O41: region by region, the write row and the read row of the address reach the same backing byte. -/
theorem busReadReturnsTheLastByteWritten : Obligations.BusReadReturnsTheLastByteWritten := by
  intro s a v hs hplain
  obtain ⟨-, hb⟩ := (inv_iff s).mp hs
  obtain ⟨h6, -⟩ := hb.banks
  simp only [isPlainStorage, Bool.or_eq_true, Bool.and_eq_true, Bool.not_eq_true', decide_eq_true_eq,
    List.contains_eq_mem, decide_eq_false_iff_not] at hplain
  rcases hplain with
    (((((hvram | ⟨⟨hxram, hmapped⟩, hfree⟩) | hwram) | ⟨hecho, hmirror⟩) | hoam) | ⟨⟨hio, hown⟩, hlocal⟩) | hhram
  · exact readsBack_vram h6 hvram
  · exact readsBack_xram h6 hxram hmapped hfree
  · exact readsBack_wram h6 hwram
  · exact readsBack_echo h6 hecho hmirror
  · exact readsBack_oam hoam
  · exact readsBack_io hio hown hlocal
  · exact readsBack_hram hhram

/-! ### Addresses that reach nothing -/

/-- A bus read at `a` answers open bus and a bus write of `v` is dropped, with no effect and no error (R80). -/
def isOpenBus (s : State) (a : Addr) (v : Byte) : Prop :=
  memRead a s = answerByte s Config.openBus ∧ memWrite a v s = done s s.blk

theorem isOpenBus_of_exec {w r : Instr} {x : Byte} {c : Block} (hwwf : w.wellFormed = true)
    (hrwf : r.wellFormed = true) (hwrite : encode w = busWrite a v) (hread : encode r = busRead a)
    (hr : exec r s = answerByte s x) (hx : x = Config.openBus) (hw : exec w s = done s c) (hc : c = s.blk) :
    isOpenBus s a v := by
  subst hx hc
  exact ⟨(memRead_eq_exec hrwf hread s).trans hr, (memWrite_eq_exec hwwf hwrite s).trans hw⟩

theorem tableRead_of_unmapped (h : b.entryOf a = .unmapped) : tableRead cfg b a = Config.openBus := by
  rw [tableRead, h]
  rfl

theorem tableWrite_of_unmapped (h : b.entryOf a = .unmapped) (v : Byte) : tableWrite b a v = b := by
  rw [tableWrite, h]
  rfl

theorem echo1Cell_of_openBus (h : cfg.echoMode = .openBus) (b : Block) (a : Addr) : echo1Cell cfg b a = none :=
  if_neg (by simp [h])

theorem isOpenBus_unused (ha : inRange 0xFEA0 0xFEFF a = true) : isOpenBus s a v :=
  isOpenBus_of_exec (w := .wrUnused a v) (r := .rdUnused a) ha ha rfl rfl rfl rfl rfl rfl

theorem isOpenBus_xram (h6 : s.blk.inv6 s.cfg) (ha : inRange 0xA000 0xBFFF a = true)
    (hmapped : xramMapped s.cfg s.blk.ramEnabled = false) (hfree : s.cfg.cartridgeWindow = false) :
    isOpenBus s a v := by
  obtain ⟨half, he⟩ := entryOf_xram h6 ha
  have hun : s.blk.entryOf a = .unmapped := by rw [he, hmapped]; rfl
  exact isOpenBus_of_exec (w := .wrXram a v) (r := .rdXram a) ha ha rfl rfl (execRdXram_of_unclaimed hfree)
    (tableRead_of_unmapped hun) (execWrXram_of_unclaimed hfree) (tableWrite_of_unmapped hun v)

theorem isOpenBus_echo (h6 : s.blk.inv6 s.cfg) (ha : inRange 0xE000 0xFDFF a = true)
    (hopen : s.cfg.echoMode = .openBus) : isOpenBus s a v := by
  rcases inRange_split 0xEFFF ha with h | h
  · have hun : s.blk.entryOf a = .unmapped := by rw [entryOf_echo0 h6 h, hopen]; rfl
    exact isOpenBus_of_exec (w := .wrEcho0 a v) (r := .rdEcho0 a) h h rfl rfl rfl (tableRead_of_unmapped hun) rfl
      (tableWrite_of_unmapped hun v)
  · have hnone := echo1Cell_of_openBus hopen s.blk a
    exact isOpenBus_of_exec (w := .wrEcho1 a v) (r := .rdEcho1 a) h h rfl rfl rfl (by rw [hnone]; rfl) rfl
      (by rw [hnone]; rfl)

/-- Settles O42: an unmapped page entry, an echo without a cell and the unused hole all answer open bus. -/
theorem unmappedAddressesAreOpenBus : Obligations.UnmappedAddressesAreOpenBus := by
  intro s a v h6 hun
  simp only [isUnmapped, Bool.or_eq_true, Bool.and_eq_true, Bool.not_eq_true', decide_eq_true_eq] at hun
  rcases hun with (hunused | ⟨⟨hxram, hmapped⟩, hfree⟩) | ⟨hecho, hopen⟩
  · exact isOpenBus_unused hunused
  · exact isOpenBus_xram h6 hxram hmapped hfree
  · exact isOpenBus_echo h6 hecho hopen

end Sys2Proof.Machine
end

section
/-! Bus reads have no later effect (spec/20_memory.md R79): RD_TIMA's synchronisation finds nothing to do in a
synchronised state (spec/41_timer.md R172, R186). -/

namespace Sys2Proof.Machine

variable {s t : State} {cfg : Cfg} {b : Block}

/-- The overflow loop without an overflow only stores the count (R172). -/
theorem reloadLoop_of_lt {c : Nat} (hc : c < 0x100) (fuel : Nat) (b : Block) :
    reloadLoop fuel c b = { b with tima := BitVec.ofNat 8 c } := by
  cases fuel with
  | zero => rfl
  | succ fuel => exact if_neg (Nat.not_le.mpr hc)

/-- `timer_sync()` changes nothing in a synchronised state (R38, R186). -/
theorem timerSync_of_synced (h : b.synced cfg) : timerSync cfg b = b := by
  unfold Block.synced at h
  cases hen : tacEnable b.tac with
  | false =>
    rw [hen, if_neg Bool.false_ne_true] at h
    rw [timerSync, hen]
    exact congrArg ({ b with lastTimerCycle := · }) h.symm
  | true =>
    rw [hen, if_pos rfl] at h
    have hk : (b.cycle - b.lastTimerCycle) >>> b.timaSh cfg = 0 := by
      rw [Nat.shiftRight_eq_div_pow, Nat.div_eq_of_lt h]
    simp [timerSync, hen, hk, reloadLoop_of_lt b.tima.isLt]

/-- From `s` to `t` the operation changed neither aggregate nor configuration, and it does the same again unless it
took a free value. -/
def quietly (i : Instr) (s t : State) : Prop :=
  t.blk = s.blk ∧ t.cfg = s.cfg ∧ (t.draws = s.draws → exec i t = .next t)

theorem rdXram_quietly {a : Addr} (h : exec (.rdXram a) s = .next t) : quietly (.rdXram a) s t := by
  cases hwin : s.cfg.cartridgeWindow with
  | true => simp [exec, execRdXram, hwin] at h
  | false =>
    cases (execRdXram_of_unclaimed hwin).symm.trans h
    exact ⟨rfl, rfl, fun _ => execRdXram_of_unclaimed hwin⟩

theorem rdIo_quietly {a : Addr} (h : exec (.rdIo a) s = .next t) : quietly (.rdIo a) s t := by
  cases hdel : delegated s.cfg a with
  | true =>
    simp only [exec, execRdIo, hdel, if_true, Host.Outcome.next.injEq] at h
    subst h
    exact ⟨rfl, rfl, fun hdraws => absurd hdraws (Nat.succ_ne_self _)⟩
  | false =>
    cases (execRdIo_of_not_delegated hdel).symm.trans h
    exact ⟨rfl, rfl, fun _ => execRdIo_of_not_delegated hdel⟩

theorem execRdTima_of_synced (h : s.blk.synced s.cfg) : execRdTima s = answerByte s s.blk.tima := by
  rw [execRdTima, timerSync_of_synced h, answerByte]

theorem rdTima_quietly (hsync : s.blk.synced s.cfg) (h : exec .rdTima s = .next t) : quietly .rdTima s t := by
  cases (execRdTima_of_synced hsync).symm.trans h
  exact ⟨rfl, rfl, fun _ => execRdTima_of_synced hsync⟩

/-- Settles O43: a read answers from the aggregate and the configuration, which it leaves as they are; RD_TIMA does so
because the timer is synchronised, and a delegated read counts a free value. -/
theorem readsHaveNoLaterEffect : Obligations.ReadsHaveNoLaterEffect := by
  intro i s t hs hread h
  obtain ⟨-, -, -, hsync⟩ := hs
  cases i with
  | rdTima => exact rdTima_quietly hsync h
  | rdXram a => exact rdXram_quietly h
  | rdIo a => exact rdIo_quietly h
  | rdDiv | rdTma | rdTac | rdIf | rdLcdc | rdStat | rdLy | rdLyc | rdIe | rdHram _ | rdOam _ | rdUnused _ | rdEcho1 _
  | rdEcho0 _ | rdWramx _ | rdWram0 _ | rdVram _ | rdRomx _ | rdRom0 _ =>
    cases h
    exact ⟨rfl, rfl, fun _ => rfl⟩
  | _ => exact absurd hread Bool.false_ne_true

end Sys2Proof.Machine
end

section
/-! The encoder writes the word an operation was decoded from, and what the decoder and the events refuse
(spec/30_encoding.md R101 to R105, R113, R119). -/

namespace Sys2Proof

/-! ### A BUS word is its `rw` bit and its address (R101) -/

theorem append_busAddr_of_ge {word : BusWord} (h : 0x10000 ≤ word.toNat) : 1#1 ++ busAddr word = word := by
  rw [← BitVec.toNat_inj, toNat_append_addr, busAddr_toNat]
  simp
  omega

theorem append_busAddr_of_lt {word : BusWord} (h : word.toNat < 0x10000) : 0#1 ++ busAddr word = word := by
  rw [← BitVec.toNat_inj, toNat_append_addr, busAddr_toNat]
  simp
  omega

theorem getLsbD_rw (word : BusWord) : word.getLsbD 16 = decide (0x10000 ≤ word.toNat) :=
  BitVec.msb_eq_decide word

/-! ### Every row builds an operation that encodes as a word of the row (R103) -/

/-- The operation the row builds has the word `port` presents at its address; a row of a single word says so of that
word's address. -/
abbrev BusRow.encodesBy (port : Addr → Byte → PortWord) (r : BusRow) : Prop :=
  (∀ a v, encode (r.build a v) = port a v) ∨
    r.mask = BitVec.allOnes 17 ∧ ∀ v, encode (r.build (busAddr r.value) v) = port (busAddr r.value) v

theorem BusRow.encode_build {port : Addr → Byte → PortWord} {r : BusRow} (h : r.encodesBy port) {word : BusWord}
    (hsel : r.selects word = true) (v : Byte) : encode (r.build (busAddr word) v) = port (busAddr word) v := by
  rcases h with hrange | ⟨hmask, hsingle⟩
  · exact hrange _ v
  · rw [BusRow.selects, hmask, BitVec.and_allOnes, beq_iff_eq] at hsel
    exact hsel ▸ hsingle v

theorem writeRows_encodesBy : ∀ r ∈ busRowsWriteSingle ++ busRowsWriteRange, r.encodesBy busWrite := by
  refine List.forall_mem_append.mpr ⟨fun r hr => .inr ?_, fun r hr => .inl ?_⟩
  · fin_cases hr <;> exact ⟨rfl, fun _ => rfl⟩
  · fin_cases hr <;> exact fun _ _ => rfl

theorem readRows_encodesBy : ∀ r ∈ busRowsReadSingle ++ busRowsReadRange, r.encodesBy fun a _ => busRead a := by
  refine List.forall_mem_append.mpr ⟨fun r hr => .inr ?_, fun r hr => .inl ?_⟩
  · fin_cases hr <;> exact ⟨rfl, fun _ => rfl⟩
  · fin_cases hr <;> exact fun _ _ => rfl

theorem writeRows_value_ge : ∀ r ∈ busRowsWriteSingle ++ busRowsWriteRange, 0x10000 ≤ r.value.toNat := by decide

theorem readRows_end_le :
    ∀ r ∈ busRowsReadSingle ++ busRowsReadRange, r.value.toNat + (0x20000 - r.mask.toNat) ≤ 0x10000 := by decide

theorem mem_busTable_iff {r : BusRow} :
    r ∈ busTable ↔ r ∈ busRowsWriteSingle ++ busRowsWriteRange ∨ r ∈ busRowsReadSingle ++ busRowsReadRange := by
  rw [busTable, List.append_assoc, List.mem_append]

/-- The row that selects a word builds an operation that encodes as that word (R101, R103; log 10). -/
theorem encode_build_of_selects {r : BusRow} (hr : r ∈ busTable) {word : BusWord} (hsel : r.selects word = true)
    (v : Byte) : encode (r.build (busAddr word) v) = .bus word (if word.getLsbD 16 then v else 0) := by
  obtain ⟨hfrom, hto⟩ := (BusRow.selects_iff hr word).mp hsel
  rcases mem_busTable_iff.mp hr with hwrite | hread
  · have hge := (writeRows_value_ge r hwrite).trans hfrom
    rw [BusRow.encode_build (writeRows_encodesBy r hwrite) hsel, busWrite, append_busAddr_of_ge hge, getLsbD_rw,
      if_pos (decide_eq_true hge)]
  · have hlt := hto.trans_le (readRows_end_le r hread)
    rw [BusRow.encode_build (readRows_encodesBy r hread) hsel, busRead, append_busAddr_of_lt hlt, getLsbD_rw,
      if_neg (by simpa using hlt)]

/-! ### Every BUS word is selected by a row (R119) -/

/-- Every page of 0x1000 words lies in the block of one row. -/
theorem busTable_covers_pages (page : Fin 32) :
    ∃ r ∈ busTable, r.value.toNat ≤ 0x1000 * page.val ∧
      0x1000 * page.val + 0x1000 ≤ r.value.toNat + (0x20000 - r.mask.toNat) := by
  revert page
  decide

theorem exists_row_selects (word : BusWord) : ∃ r ∈ busTable, r.selects word = true := by
  obtain ⟨r, hr, hfrom, hto⟩ := busTable_covers_pages ⟨word.toNat / 0x1000, by omega⟩
  dsimp only at hfrom hto
  exact ⟨r, hr, (BusRow.selects_iff hr word).mpr (by omega)⟩

/-- The decoder answers every BUS word by a row that selects it. -/
theorem decodeBus_eq_build (word : BusWord) (v : Byte) :
    ∃ r ∈ busTable, r.selects word = true ∧ decodeBus word v = .instr (r.build (busAddr word) v) := by
  obtain ⟨r, hfind⟩ := Option.isSome_iff_exists.mp (List.find?_isSome.mpr (exists_row_selects word))
  have hsel := List.find?_some hfind
  refine ⟨r, List.mem_of_find?_eq_some hfind, hsel, ?_⟩
  simp only [decodeBus, hfind]

/-! ### EVT words (R105, R113) -/

theorem encode_of_decodeEvt {sel : BitVec 4} {o : EvtOperand} {i : Instr} (h : decodeEvt sel o = .instr i) :
    encode i = .evt sel o := by
  unfold decodeEvt at h
  split at h
  case h_11 => split at h <;> cases h
  all_goals
    next hsel =>
      cases h
      exact congrArg (PortWord.evt · _) (BitVec.eq_of_toNat_eq hsel.symm)

theorem decodeEvt_eq_reservedSelector_iff {sel : BitVec 4} {o : EvtOperand} :
    decodeEvt sel o = .reject .reservedSelector ↔ 10 ≤ sel.toNat := by
  unfold decodeEvt
  split
  case h_11 => split <;> simp <;> omega
  all_goals simp [*]

end Sys2Proof

namespace Sys2Proof.Machine

variable {s : State}

/-! ### Events with a reserved operand (R113, R311) -/

theorem execIrqReq_of_reserved {id : BitVec 3} (h : 5 ≤ id.toNat) : execIrqReq id s = .refused .reservedEvent := by
  have hnone : IrqSource.ofId id = none := by
    unfold IrqSource.ofId
    split
    case h_6 => rfl
    all_goals omega
  simp only [execIrqReq, hnone]

theorem execMbcRombank_of_ge {n : Nat} (h : s.cfg.numRomBanks ≤ n) :
    execMbcRombank n s = .refused .reservedEvent :=
  if_neg h.not_gt

theorem execMbcRambank_of_ge {n : Nat} (h : max s.cfg.numRamBanks 1 ≤ n) :
    execMbcRambank n s = .refused .reservedEvent :=
  if_neg h.not_gt

theorem execSpeedSwitch_of_classic (h : s.cfg.cgb = false) : execSpeedSwitch s = .refused .reservedEvent :=
  if_neg (Bool.eq_false_iff.mp h)

/-! ### The obligations of the encoding -/

/-- Settles O1, by the case split of `decode_encode`: an operation's row is the first to reach its word. -/
theorem decodeOfEncodeIsTheOperation : Obligations.DecodeOfEncodeIsTheOperation :=
  fun _ => decode_encode

/-- Settles O2: some row selects the word, and the first that does builds an operation that encodes as it. -/
theorem everyBusWordSelectsOneWellFormedOperation : Obligations.EveryBusWordSelectsOneWellFormedOperation := by
  intro word wdata
  obtain ⟨r, hr, hsel, hdecode⟩ := decodeBus_eq_build word wdata
  exact ⟨_, hdecode, decodeBus_wellFormed hdecode, encode_build_of_selects hr hsel wdata⟩

/-- Settles O3, by the decoder's cases: one selector and one kind of operand for each event. -/
theorem decodedEventWordIsTheEncodedWord : Obligations.DecodedEventWordIsTheEncodedWord :=
  fun _ _ _ h => ⟨decodeEvt_wellFormed h, encode_of_decodeEvt h⟩

/-- Settles O4: the decoder evaluated at each word of the table. -/
theorem sampleWordsDecodeAsTheTableSays : Obligations.SampleWordsDecodeAsTheTableSays :=
  ⟨rfl, rfl, rfl, rfl, rfl, rfl, rfl, rfl, rfl, rfl, rfl, rfl, rfl, rfl, fun _ => rfl⟩

/-- Settles O6: the decoder rejects the reserved selectors and no others, and each event refuses its reserved
operands. -/
theorem reservedEventsAreRefused : Obligations.ReservedEventsAreRefused :=
  ⟨fun _ _ => decodeEvt_eq_reservedSelector_iff, fun _ => ⟨fun _ => execIrqReq_of_reserved,
    fun _ => execMbcRombank_of_ge, fun _ => execMbcRambank_of_ge, execSpeedSwitch_of_classic⟩⟩

end Sys2Proof.Machine
end

section
/-! What the reads and writes of the memory rows answer with the page table current: the byte, or the cell, that each
address denotes (spec/40_mmu_bank_page_table.md R130 to R156, R163 to R169). -/

namespace Sys2Proof.Machine

variable {s : State} {cfg : Cfg} {b : Block} {a : Addr} {i : Instr} {st : Store} {k : Nat}

/-! ### The page table by address: the half or the quarter of a bank that a page shows (R130, R131) -/

theorem inRange_iff {lo hi : Nat} : inRange lo hi a = true ↔ lo ≤ a.toNat ∧ a.toNat ≤ hi := by
  simp [inRange]

/-- Which half of an 8 KiB bank the address's page shows. -/
def pageHalf (a : Addr) : Fin 2 := ⟨a.toNat / 0x1000 % 2, Nat.mod_lt _ (by decide)⟩

/-- Which quarter of a 16 KiB ROM bank the address's page shows. -/
def pageQuarter (a : Addr) : Fin 4 := ⟨a.toNat / 0x1000 % 4, Nat.mod_lt _ (by decide)⟩

/-- The half and the page offset make up `addr[12:0]` (R106). -/
theorem pageHalf_offset (a : Addr) : (pageHalf a).val * 0x1000 + pageOff a = a.toNat % 0x2000 := by
  simp only [pageHalf, pageOff]
  omega

/-- The quarter and the page offset make up `addr[13:0]` (R106). -/
theorem pageQuarter_offset (a : Addr) : (pageQuarter a).val * 0x1000 + pageOff a = a.toNat % 0x4000 := by
  simp only [pageQuarter, pageOff]
  omega

theorem pageTable_rom0 (cfg : Cfg) (b : Block) : ∀ q : Fin 4,
    (mapBanks cfg b).pageTable[q.val] = if b.biosMapped ∧ q = 0 then .bootOverlay else .rom 0 q
  | 0 => by simp [mapBanks, pageMap]
  | 1 | 2 | 3 => (if_neg (by simp)).symm

theorem pageTable_romx (cfg : Cfg) (b : Block) : ∀ q : Fin 4,
    (mapBanks cfg b).pageTable[4 + q.val] = .rom b.romBank q
  | 0 | 1 | 2 | 3 => rfl

theorem pageTable_vram (cfg : Cfg) (b : Block) : ∀ half : Fin 2,
    (mapBanks cfg b).pageTable[8 + half.val] = .vram b.vramBank half
  | 0 | 1 => rfl

theorem pageTable_xram (cfg : Cfg) (b : Block) : ∀ half : Fin 2,
    (mapBanks cfg b).pageTable[10 + half.val] =
      if xramMapped cfg b.ramEnabled then .xram b.ramBank half else .unmapped
  | 0 | 1 => rfl

/-- With the page table current, an address's entry is the one of its page number (INV6). -/
theorem entryOf_of_pageNumber (h6 : b.inv6 cfg) {n : Nat} (hn : n < 16) (ha : a.toNat / 0x1000 = n) :
    b.entryOf a = (mapBanks cfg b).pageTable[n] := by
  subst ha
  exact congrArg (·[pageOf a]) h6

theorem entryOf_rom0 (h6 : b.inv6 cfg) (ha : a.toNat < 0x4000) :
    b.entryOf a = if b.biosMapped ∧ pageQuarter a = 0 then .bootOverlay else .rom 0 (pageQuarter a) :=
  (entryOf_of_pageNumber h6 (by omega) (Nat.mod_eq_of_lt (by omega)).symm).trans (pageTable_rom0 cfg b (pageQuarter a))

theorem entryOf_romx (h6 : b.inv6 cfg) (hlo : 0x4000 ≤ a.toNat) (hhi : a.toNat < 0x8000) :
    b.entryOf a = .rom b.romBank (pageQuarter a) :=
  (entryOf_of_pageNumber h6 (by omega) (by simp only [pageQuarter]; omega)).trans (pageTable_romx cfg b _)

theorem entryOf_vramHalf (h6 : b.inv6 cfg) (ha : inRange 0x8000 0x9FFF a = true) :
    b.entryOf a = .vram b.vramBank (pageHalf a) := by
  obtain ⟨hlo, hhi⟩ := inRange_iff.mp ha
  exact (entryOf_of_pageNumber h6 (by omega) (by simp only [pageHalf]; omega)).trans (pageTable_vram cfg b _)

theorem entryOf_xramHalf (h6 : b.inv6 cfg) (ha : inRange 0xA000 0xBFFF a = true) :
    b.entryOf a = if xramMapped cfg b.ramEnabled then .xram b.ramBank (pageHalf a) else .unmapped := by
  obtain ⟨hlo, hhi⟩ := inRange_iff.mp ha
  exact (entryOf_of_pageNumber h6 (by omega) (by simp only [pageHalf]; omega)).trans (pageTable_xram cfg b _)

/-! ### ROM and the boot overlay (R135, R138, R139) -/

theorem tableRead_of_rom {bank : Nat} (h : b.entryOf a = .rom bank (pageQuarter a)) :
    tableRead cfg b a = romAt cfg bank (a.toNat % 0x4000) := by
  rw [tableRead, h, ← pageQuarter_offset]
  rfl

/-- The overlay entry shows the boot image where `boot_hit`, and ROM bank 0 elsewhere in its page (R135). -/
theorem tableRead_of_bootOverlay (h : b.entryOf a = .bootOverlay) (ha : a.toNat < 0x1000) :
    tableRead cfg b a =
      if a.toNat < 0x100 ∨ 0x200 ≤ a.toNat ∧ a.toNat < 0x900 then bootAt cfg a.toNat else romAt cfg 0 a.toNat := by
  have hoff : pageOff a = a.toNat := Nat.mod_eq_of_lt ha
  simp [tableRead, h, pageRead, hoff, bootHit]

theorem tableRead_rom0 (h6 : b.inv6 cfg) (ha : a.toNat < 0x4000) :
    tableRead cfg b a =
      if b.biosMapped ∧ (a.toNat < 0x100 ∨ 0x200 ≤ a.toNat ∧ a.toNat < 0x900) then bootAt cfg a.toNat
      else romAt cfg 0 a.toNat := by
  have hentry := entryOf_rom0 h6 ha
  have hquarter : pageQuarter a = 0 ↔ a.toNat < 0x1000 := by
    simp only [pageQuarter, Fin.ext_iff, Fin.val_zero]
    omega
  by_cases hoverlay : b.biosMapped ∧ pageQuarter a = 0
  · rw [if_pos hoverlay] at hentry
    obtain ⟨hmapped, hzero⟩ := hoverlay
    simp only [tableRead_of_bootOverlay hentry (hquarter.mp hzero), hmapped, true_and]
  · rw [if_neg hoverlay] at hentry
    rw [if_neg fun ⟨hmapped, hhit⟩ => hoverlay ⟨hmapped, hquarter.mpr (by omega)⟩, tableRead_of_rom hentry,
      Nat.mod_eq_of_lt ha]

/-- Settles O31: page 0 is the overlay or ROM bank 0, pages 1 to 3 are ROM bank 0, pages 4 to 7 the selected bank. -/
theorem romReadsShowOverlayAndBank : Obligations.RomReadsShowOverlayAndBank := by
  refine fun s a h6 => ⟨fun ha => ?_, fun hlo hhi => ?_⟩
  · rw [← tableRead_rom0 h6 ha]
    rfl
  · rw [← tableRead_of_rom (entryOf_romx h6 hlo hhi)]
    rfl

/-! ### The cell an address denotes (R130, R133) -/

/-- The cell that the page table denotes at the address, if it denotes one. -/
def Block.tableCell (b : Block) (a : Addr) : Option (Store × Nat) := (b.entryOf a).cell (pageOff a)

theorem tableCell_vram (h6 : b.inv6 cfg) (ha : inRange 0x8000 0x9FFF a = true) :
    b.tableCell a = some (.vram, b.vramBank * 0x2000 + a.toNat % 0x2000) := by
  rw [Block.tableCell, entryOf_vramHalf h6 ha, ← pageHalf_offset, ← Nat.add_assoc]
  rfl

theorem tableCell_xram (h6 : b.inv6 cfg) (ha : inRange 0xA000 0xBFFF a = true)
    (hmapped : xramMapped cfg b.ramEnabled = true) :
    b.tableCell a = some (.xram, b.ramBank * 0x2000 + a.toNat % 0x2000) := by
  rw [Block.tableCell, entryOf_xramHalf h6 ha, if_pos hmapped, ← pageHalf_offset, ← Nat.add_assoc]
  rfl

theorem tableCell_wram0 (h6 : b.inv6 cfg) (ha : inRange 0xC000 0xCFFF a = true) :
    b.tableCell a = some (.wram, 0 * 0x1000 + a.toNat % 0x1000) := by
  rw [Block.tableCell, entryOf_wram0 h6 ha]
  rfl

theorem tableCell_wramx (h6 : b.inv6 cfg) (ha : inRange 0xD000 0xDFFF a = true) :
    b.tableCell a = some (.wram, b.wramBank * 0x1000 + a.toNat % 0x1000) := by
  rw [Block.tableCell, entryOf_wramx h6 ha]
  rfl

theorem tableCell_echo0 (h6 : b.inv6 cfg) (ha : inRange 0xE000 0xEFFF a = true) (hmirror : cfg.echoMode = .mirror) :
    b.tableCell a = some (.wram, 0 * 0x1000 + a.toNat % 0x1000) := by
  rw [Block.tableCell, entryOf_echo0 h6 ha, if_pos hmirror]
  rfl

theorem entryOf_echo0_of_openBus (h6 : b.inv6 cfg) (ha : inRange 0xE000 0xEFFF a = true)
    (hopen : cfg.echoMode = .openBus) : b.entryOf a = .unmapped := by
  rw [entryOf_echo0 h6 ha, hopen]
  rfl

theorem tableRead_of_tableCell (hc : b.tableCell a = some (st, k)) : tableRead cfg b a = b.byteOf st k :=
  pageRead_of_cell hc

theorem tableWrite_of_tableCell (hc : b.tableCell a = some (st, k)) (v : Byte) :
    tableWrite b a v = b.writeByte st k v := by
  rw [Block.tableCell] at hc
  rw [tableWrite, pageWrite, hc]

/-! ### What a row answers: a byte, a store of one byte, or nothing -/

/-- The operation answers the byte `x` and changes nothing. -/
def answers (s : State) (i : Instr) (x : Byte) : Prop := exec i s = .next { s with out := ⟨.rdata x, []⟩ }

/-- The operation stores `v` in one cell and changes nothing else. -/
def stores (s : State) (i : Instr) (st : Store) (k : Nat) (v : Byte) : Prop :=
  ∃ t, exec i s = .next t ∧ storesOnly s st k v t

/-- The operation changes nothing. -/
def drops (s : State) (i : Instr) : Prop := exec i s = .next { s with out := ⟨.none, []⟩ }

theorem answers_of_tableCell (hexec : exec i s = answerByte s (tableRead s.cfg s.blk a))
    (hc : s.blk.tableCell a = some (st, k)) : answers s i (s.blk.byteOf st k) :=
  hexec.trans (congrArg (answerByte s) (tableRead_of_tableCell hc))

theorem answers_of_unmapped (hexec : exec i s = answerByte s (tableRead s.cfg s.blk a))
    (hun : s.blk.entryOf a = .unmapped) : answers s i 0xFF :=
  hexec.trans (congrArg (answerByte s) (tableRead_of_unmapped hun))

theorem stores_of_writeByte {v : Byte} (hexec : exec i s = done s (s.blk.writeByte st k v)) : stores s i st k v := by
  refine ⟨_, hexec, ?_, fun st' k' => byteOf_writeByte s.blk st st' k k' v⟩
  exact congrArg (fun c => { s with blk := c, out := ⟨.none, []⟩ }) (writeByte_frame s.blk st k v)

theorem stores_of_tableCell {v : Byte} (hexec : exec i s = done s (tableWrite s.blk a v))
    (hc : s.blk.tableCell a = some (st, k)) : stores s i st k v :=
  stores_of_writeByte (hexec.trans (congrArg (done s ·) (tableWrite_of_tableCell hc v)))

theorem drops_of_unmapped {v : Byte} (hexec : exec i s = done s (tableWrite s.blk a v))
    (hun : s.blk.entryOf a = .unmapped) : drops s i :=
  hexec.trans (congrArg (done s ·) (tableWrite_of_unmapped hun v))

/-! ### Video RAM, work RAM and its echo (R140, R142, R147 to R154) -/

theorem rdEcho0_answers (h6 : s.blk.inv6 s.cfg) (ha : inRange 0xE000 0xEFFF a = true) :
    answers s (.rdEcho0 a)
      (if s.cfg.echoMode = .mirror then s.blk.byteOf .wram (0 * 0x1000 + a.toNat % 0x1000) else 0xFF) := by
  cases hmode : s.cfg.echoMode with
  | mirror => exact answers_of_tableCell rfl (tableCell_echo0 h6 ha hmode)
  | openBus => exact answers_of_unmapped rfl (entryOf_echo0_of_openBus h6 ha hmode)

theorem rdEcho1_answers (s : State) (a : Addr) :
    answers s (.rdEcho1 a)
      (if s.cfg.echoMode = .mirror then s.blk.byteOf .wram (s.blk.wramBank * 0x1000 + a.toNat % 0x1000) else 0xFF) := by
  cases hmode : s.cfg.echoMode with
  | mirror => exact congrArg (fun c => answerByte s (cellRead s.blk c)) (echo1Cell_of_mirror hmode s.blk a)
  | openBus => exact congrArg (fun c => answerByte s (cellRead s.blk c)) (echo1Cell_of_openBus hmode s.blk a)

theorem wrEcho1_stores (hmirror : s.cfg.echoMode = .mirror) (v : Byte) :
    stores s (.wrEcho1 a v) .wram (s.blk.wramBank * 0x1000 + a.toNat % 0x1000) v :=
  stores_of_writeByte (congrArg (fun c => done s (cellWrite s.blk c v)) (echo1Cell_of_mirror hmirror s.blk a))

theorem wrEcho1_drops (hopen : s.cfg.echoMode = .openBus) (v : Byte) : drops s (.wrEcho1 a v) :=
  congrArg (fun c => done s (cellWrite s.blk c v)) (echo1Cell_of_openBus hopen s.blk a)

/-- Settles O33: the cell each page's entry denotes, and the two modes of the echo. -/
theorem ramReadsShowTheSelectedBank : Obligations.RamReadsShowTheSelectedBank :=
  fun s a h6 =>
    ⟨fun ha => answers_of_tableCell rfl (tableCell_vram h6 ha),
      fun ha => answers_of_tableCell rfl (tableCell_wram0 h6 ha),
      fun ha => answers_of_tableCell rfl (tableCell_wramx h6 ha),
      rdEcho0_answers h6, fun _ => rdEcho1_answers s a⟩

/-- Settles O34: each write stores in the cell its read shows, and an open-bus echo has none. -/
theorem ramWritesStoreOneByteOfTheSelectedBank : Obligations.RamWritesStoreOneByteOfTheSelectedBank := by
  intro s a v h6
  have hbank0 : 0 * 0x1000 + a.toNat % 0x1000 = a.toNat % 0x1000 := by omega
  refine ⟨fun ha => stores_of_tableCell rfl (tableCell_vram h6 ha),
    fun ha => stores_of_tableCell rfl (hbank0 ▸ tableCell_wram0 h6 ha),
    fun ha => stores_of_tableCell rfl (tableCell_wramx h6 ha),
    fun hmirror => ⟨fun ha => ?_, fun _ => wrEcho1_stores hmirror v⟩,
    fun hopen => ⟨fun ha => ?_, fun _ => wrEcho1_drops hopen v⟩⟩
  · exact stores_of_tableCell rfl (hbank0 ▸ tableCell_echo0 h6 ha hmirror)
  · exact drops_of_unmapped rfl (entryOf_echo0_of_openBus h6 ha hopen)

/-! ### External RAM (R143 to R146) -/

theorem entryOf_xram_of_not_mapped (h6 : b.inv6 cfg) (ha : inRange 0xA000 0xBFFF a = true)
    (hun : b.ramEnabled = false ∨ cfg.numRamBanks = 0) : b.entryOf a = .unmapped := by
  rw [entryOf_xramHalf h6 ha, if_neg]
  rcases hun with h | h <;> simp [xramMapped, h]

/-- Settles O35: the entry of a mapped page is the selected bank, that of an unmapped one denotes nothing, and the claim
is tested before either. -/
theorem externalRamAnswersOnlyWhenMapped : Obligations.ExternalRamAnswersOnlyWhenMapped := by
  refine fun s a v h6 ha => ⟨fun hfree hen hbanks => ?mapped, fun hfree hun => ?unmapped, fun hclaimed => ?claimed⟩
  case mapped =>
    have hc := tableCell_xram h6 ha (by simp [xramMapped, hen, hbanks])
    exact ⟨answers_of_tableCell (execRdXram_of_unclaimed hfree) hc,
      stores_of_tableCell (execWrXram_of_unclaimed hfree) hc⟩
  case unmapped =>
    have hentry := entryOf_xram_of_not_mapped h6 ha hun
    exact ⟨answers_of_unmapped (execRdXram_of_unclaimed hfree) hentry,
      drops_of_unmapped (execWrXram_of_unclaimed hfree) hentry⟩
  case claimed => exact ⟨if_pos hclaimed, if_pos hclaimed⟩

/-! ### Generic I/O (R163, R168, R169) -/

theorem delegated_iff : delegated cfg a = true ↔ a ∈ cfg.delegatedIo := by
  simp [delegated]

theorem delegated_of_not_mem (h : a ∉ cfg.delegatedIo) : delegated cfg a = false :=
  Bool.eq_false_iff.mpr (delegated_iff.not.mpr h)

theorem byteOff_io (ha : inRange 0xFF00 0xFF7F a = true) : byteOff a = a.toNat - 0xFF00 := by
  obtain ⟨hlo, hhi⟩ := inRange_iff.mp ha
  unfold byteOff
  omega

/-- Settles O37: a delegated address is asked and told outside the block; any other one is a byte of the I/O block. -/
theorem genericIoIsStorageOrDelegated : Obligations.GenericIoIsStorageOrDelegated := by
  refine fun s a v => ⟨fun hwf => ⟨fun hown => ?read, fun hdel => ?readDelegated⟩,
    fun hwf => ⟨fun hown => ?write, fun hdel => ?writeDelegated⟩⟩
  case read =>
    rw [← byteOff_io (inRange_except_iff.mp hwf).1]
    exact execRdIo_of_not_delegated (delegated_of_not_mem hown)
  case readDelegated => exact ⟨_, if_pos (delegated_iff.mpr hdel)⟩
  case write =>
    rw [← byteOff_io (inRange_except_iff.mp hwf).1]
    exact stores_of_writeByte (execWrIo_of_not_delegated (delegated_of_not_mem hown))
  case writeDelegated => exact if_pos (delegated_iff.mpr hdel)

/-! ### ROM writes, OAM, the unused hole, high RAM (R141, R155, R156, R164 to R167) -/

/-- Settles O32: WR_ROM completes with the aggregate it found and the one pulse. -/
theorem romWritesAreForwarded : Obligations.RomWritesAreForwarded :=
  fun _ _ _ => rfl

/-- Settles O36: the rows reach their store directly, not through the page table. -/
theorem oamUnusedAndHighRamAccesses : Obligations.OamUnusedAndHighRamAccesses :=
  fun _ _ _ => ⟨fun _ => ⟨rfl, stores_of_writeByte rfl⟩, fun _ => ⟨rfl, rfl⟩, fun _ => ⟨rfl, stores_of_writeByte rfl⟩⟩

end Sys2Proof.Machine
end

section
/-! The bank operations: what each selects, and that they and no others change the page table
(spec/40_mmu_bank_page_table.md R131, R132, R157 to R162). -/

namespace Sys2Proof.Machine

variable {s t : State} {i : Instr} {b : Block}

/-! ### What the bank operations select -/

theorem vbkBank_eq (v : Byte) : vbkBank v = v.toNat % 2 := by
  simp [vbkBank]

theorem svbkBank_eq (v : Byte) : svbkBank v = if v.toNat % 8 = 0 then 1 else v.toNat % 8 := by
  simp [svbkBank]

theorem execWrVbk_eq (v : Byte) (s : State) :
    execWrVbk v s = done s (mapBanks s.cfg { s.blk with
      vbk := v, vramBank := if s.cfg.cgb then v.toNat % 2 else s.blk.vramBank }) := by
  rw [execWrVbk, ← vbkBank_eq]
  split <;> rfl

theorem execWrSvbk_eq (v : Byte) (s : State) :
    execWrSvbk v s = done s (mapBanks s.cfg { s.blk with
      svbk := v
      wramBank := if s.cfg.cgb then (if v.toNat % 8 = 0 then 1 else v.toNat % 8) else s.blk.wramBank }) := by
  rw [execWrSvbk, ← svbkBank_eq]
  split <;> rfl

/-- The operation ends with the aggregate `b`, but for the page table, which is current. -/
def remapsTo (s : State) (i : Instr) (b : Block) : Prop :=
  ∃ table : Vector PageEntry 16,
    exec i s = .next { s with blk := { b with pageTable := table }, out := ⟨.none, []⟩ } ∧
      ({ b with pageTable := table } : Block).inv6 s.cfg

theorem remapsTo_of_mapBanks (hexec : exec i s = done s (mapBanks s.cfg b)) : remapsTo s i b :=
  ⟨(mapBanks s.cfg b).pageTable, hexec, rfl⟩

/-- Settles O38: each operation sets its registers and ends with `mapBanks()`. -/
theorem bankOperationsSelectAndRemap : Obligations.BankOperationsSelectAndRemap :=
  fun s =>
    ⟨fun v => remapsTo_of_mapBanks (execWrVbk_eq v s), fun v => remapsTo_of_mapBanks (execWrSvbk_eq v s),
      fun v => ⟨(mapBanks s.cfg { s.blk with bootoff := v, biosMapped := false }).pageTable, rfl, rfl⟩,
      fun _ hn => remapsTo_of_mapBanks (if_pos hn), fun _ hn => remapsTo_of_mapBanks (if_pos hn),
      fun _ => remapsTo_of_mapBanks rfl⟩

/-! ### Which operations refresh the page table (R132) -/

/-- The operations that can change an input of `mapBanks()`. -/
def isBankOperation (i : Instr) : Prop :=
  (∃ v, i = .wrSvbk v) ∨ (∃ v, i = .wrVbk v) ∨ (∃ v, i = .wrBootoff v) ∨ (∃ n, i = .mbcRombank n) ∨
    (∃ n, i = .mbcRambank n) ∨ (∃ b, i = .mbcRamen b) ∨ i = .reset ∨ ∃ b, i = .loadState b

theorem mayChangeBanks_iff : mayChangeBanks i = true ↔ isBankOperation i ∨ i = .speedSwitch := by
  cases i <;> simp [mayChangeBanks, isBankOperation]

theorem inv6_of_done_mapBanks {r : Reply} {ps : List Pulse} (h : done s (mapBanks s.cfg b) r ps = .next t) :
    t.blk.inv6 t.cfg := by
  cases h
  rfl

/-- A bank operation leaves the page table current, whatever it was. -/
theorem exec_inv6_of_isBankOperation (hi : isBankOperation i) (h : exec i s = .next t) : t.blk.inv6 t.cfg := by
  rcases hi with ⟨v, rfl⟩ | ⟨v, rfl⟩ | ⟨v, rfl⟩ | ⟨n, rfl⟩ | ⟨n, rfl⟩ | ⟨en, rfl⟩ | rfl | ⟨snap, rfl⟩
  · exact inv6_of_done_mapBanks ((execWrSvbk_eq v s).symm.trans h)
  · exact inv6_of_done_mapBanks ((execWrVbk_eq v s).symm.trans h)
  · cases h
    rfl
  · exact inv6_of_done_mapBanks (execMbcRombank_next h).2
  · exact inv6_of_done_mapBanks (execMbcRambank_next h).2
  · exact inv6_of_done_mapBanks h
  · cases h
    rfl
  · obtain ⟨-, rfl⟩ := (execLoadState_next snap s t).mp h
    rfl

/-- The page table and the inputs of `mapBanks()`. -/
def Block.tablePart (b : Block) : Vector PageEntry 16 × Bool × Nat × Nat × Bool × Nat × Nat :=
  (b.pageTable, b.biosMapped, b.romBank, b.ramBank, b.ramEnabled, b.wramBank, b.vramBank)

theorem tablePart_of_bankPart {c : Block} (h : c.bankPart = b.bankPart) : c.tablePart = b.tablePart := by
  simp only [Block.bankPart, Prod.mk.injEq] at h
  simp only [Block.tablePart, h]

theorem inv6_congr {cfg : Cfg} {c : Block} (h : c.tablePart = b.tablePart) (hb : b.inv6 cfg) : c.inv6 cfg := by
  simp only [Block.tablePart, Prod.mk.injEq] at h
  simpa only [Block.inv6, h] using hb

/-- Every other operation keeps the page table and its inputs; SPEED_SWITCH is the only one of them that may change the
bank state, and what it changes is the speed. -/
theorem exec_tablePart (hi : ¬ isBankOperation i) (h : exec i s = .next t) : t.blk.tablePart = s.blk.tablePart := by
  by_cases hspeed : i = .speedSwitch
  · subst hspeed
    cases execSpeedSwitch_next h
    exact (congrArg Block.tablePart (timerSync_frame s.cfg s.blk)).trans rfl
  · have hother : mayChangeBanks i = false :=
      Bool.eq_false_iff.mpr fun hmay => (mayChangeBanks_iff.mp hmay).elim hi hspeed
    exact tablePart_of_bankPart (exec_banksKept hother h).1

theorem cfg_of_done {r : Reply} {ps : List Pulse} (h : done s b r ps = .next t) : t.cfg = s.cfg := by
  cases h
  rfl

/-- No operation writes the configuration (log 2). -/
theorem exec_cfg (h : exec i s = .next t) : t.cfg = s.cfg := by
  cases i with
  | rdXram _ => exact cfg_of_done (execRdXram_next h)
  | wrXram _ _ => exact cfg_of_done (execWrXram_next h)
  | rdIo _ => exact (execRdIo_next h).1
  | wrIo _ _ => exact (execWrIo_next h).elim cfg_of_done cfg_of_done
  | wrLcdc _ =>
    rcases execWrLcdc_next h with ⟨-, h⟩ | ⟨-, -, h⟩ | ⟨-, h⟩
    all_goals exact cfg_of_done h
  | irqReq _ =>
    obtain ⟨src, h⟩ := execIrqReq_next h
    exact cfg_of_done h
  | speedSwitch => exact cfg_of_done (execSpeedSwitch_next h)
  | mbcRombank _ => exact cfg_of_done (execMbcRombank_next h).2
  | mbcRambank _ => exact cfg_of_done (execMbcRambank_next h).2
  | wrBootoff _ => exact (execWrBootoff_next h).1
  | reset => exact (execReset_next h).1
  | loadState snap =>
    obtain ⟨-, rfl⟩ := (execLoadState_next snap s t).mp h
    rfl
  | _ => exact cfg_of_done h

/-- Settles O39: a bank operation ends with the table current, and any other one keeps the table and its inputs. -/
theorem pageTableIsRefreshedByExactlyTheBankOperations :
    Obligations.PageTableIsRefreshedByExactlyTheBankOperations := by
  refine fun i s t h => ⟨fun hi => exec_inv6_of_isBankOperation hi h,
    fun hi => congrArg Prod.fst (exec_tablePart hi h), fun h6 => ?_⟩
  by_cases hi : isBankOperation i
  · exact exec_inv6_of_isBankOperation hi h
  · exact exec_cfg h ▸ inv6_congr (exec_tablePart hi h) h6

end Sys2Proof.Machine
end

section
/-! The closed form of `timer_sync()` (spec/41_timer.md R171, R172, R185): the overflow loop reduces the excess over 256
modulo `256 - TMA`, and its interrupt requests add up to at most one. -/

namespace Sys2Proof.Machine

variable {cfg : Cfg} {b : Block}

/-! ### Counting up with reload -/

/-- The count `c` after its overflows, each reloading `tma` and taking `256 - tma` off it (R172, R185). -/
def reloaded (tma c : Nat) : Nat := if c < 256 then c else tma + (c - 256) % (256 - tma)

theorem reloaded_of_lt {tma c : Nat} (hc : c < 256) : reloaded tma c = c := if_pos hc

theorem reloaded_of_le {tma c : Nat} (hc : 256 ≤ c) : reloaded tma c = tma + (c - 256) % (256 - tma) :=
  if_neg (Nat.not_lt.mpr hc)

theorem reloaded_lt {tma : Nat} (htma : tma < 256) (c : Nat) : reloaded tma c < 256 := by
  unfold reloaded
  split
  · assumption
  · have hmod := Nat.mod_lt (c - 256) (Nat.sub_pos_of_lt htma)
    omega

/-- Counted from `tma`, overflowing is counting modulo `256 - tma`. -/
theorem reloaded_add_self {tma : Nat} (htma : tma < 256) (y : Nat) :
    reloaded tma (tma + y) = tma + y % (256 - tma) := by
  by_cases hy : y < 256 - tma
  · rw [reloaded_of_lt (by omega), Nat.mod_eq_of_lt hy]
  · have hexcess : tma + y - 256 = y - (256 - tma) := by omega
    rw [reloaded_of_le (by omega), Nat.mod_eq_sub_mod (Nat.not_lt.mp hy), hexcess]

/-- One pass of the overflow loop does not change where the count ends. -/
theorem reloaded_pass {tma c : Nat} (htma : tma < 256) (hc : 256 ≤ c) :
    reloaded tma (tma + (c - 256)) = reloaded tma c := by
  rw [reloaded_add_self htma, reloaded_of_le hc]

/-- Reloading before counting on does not change where the count ends (R186). -/
theorem reloaded_add {tma : Nat} (htma : tma < 256) (c d : Nat) :
    reloaded tma (reloaded tma c + d) = reloaded tma (c + d) := by
  by_cases hc : c < 256
  · rw [reloaded_of_lt hc]
  · have hc : 256 ≤ c := Nat.not_lt.mp hc
    rw [reloaded_of_le hc, Nat.add_assoc, reloaded_add_self htma, Nat.mod_add_mod,
      reloaded_of_le (Nat.le_add_right_of_le hc), Nat.sub_add_comm hc]

/-! ### The loop -/

/-- A second request of the same source adds nothing (R254). -/
theorem requestInterrupt_idem (src : IrqSource) (b : Block) :
    requestInterrupt src (requestInterrupt src b) = requestInterrupt src b := by
  simp [requestInterrupt, Block.testBreak, Block.irqPending, BitVec.or_assoc]

/-- Two conditional requests of one source are one (R254). -/
theorem requestIf_requestIf (p q : Bool) (src : IrqSource) (b : Block) :
    requestIf q src (requestIf p src b) = requestIf (p || q) src b := by
  cases p with
  | false => rfl
  | true =>
    cases q with
    | false => rfl
    | true => exact requestInterrupt_idem src b

/-- TIMA has counted up to `c`, overflows included (R172, R185). -/
def Block.countTo (c : Nat) (b : Block) : Block :=
  { requestIf (decide (256 ≤ c)) .timer b with tima := BitVec.ofNat 8 (reloaded b.tma.toNat c) }

/-- A request ahead of the count is that of an overflow the count still contains. -/
theorem countTo_requestIf {p : Bool} {c c' : Nat} (hcount : reloaded b.tma.toNat c' = reloaded b.tma.toNat c)
    (hirq : (p || decide (256 ≤ c')) = decide (256 ≤ c)) : (requestIf p .timer b).countTo c' = b.countTo c := by
  rw [Block.countTo, requestIf_requestIf, hirq, requestIf_tma, hcount, Block.countTo]

/-- The overflow loop, with fuel enough, requests once if the count overflows at all, and stores what the reloads leave
(R172). -/
theorem reloadLoop_eq {fuel c : Nat} (hfuel : c ≤ fuel) (b : Block) : reloadLoop fuel c b = b.countTo c := by
  induction fuel generalizing c b with
  | zero =>
    obtain rfl := Nat.le_zero.mp hfuel
    rfl
  | succ fuel ih =>
    by_cases hc : c < 256
    · rw [reloadLoop_of_lt hc, Block.countTo, reloaded_of_lt hc, decide_eq_false (Nat.not_le.mpr hc)]
      rfl
    · have hc : 256 ≤ c := Nat.not_lt.mp hc
      have htma := b.tma.isLt
      rw [reloadLoop, if_pos hc, ih (by omega)]
      exact countTo_requestIf (p := true) (reloaded_pass htma hc) (by simp [hc])

/-! ### `timer_sync()` -/

/-- The cycles since the latch, below one period in a synchronised timer (R38). -/
def Block.sinceLatch (b : Block) : Nat := b.cycle - b.lastTimerCycle

/-- TIMA with the whole periods since the latch counted in, before any reload (R172). -/
def Block.timaCount (cfg : Cfg) (b : Block) : Nat := b.tima.toNat + b.sinceLatch / 2 ^ b.timaSh cfg

theorem timerSync_of_disabled (hen : tacEnable b.tac = false) :
    timerSync cfg b = { b with lastTimerCycle := b.cycle } := by
  simp [timerSync, hen]

theorem timerSync_of_enabled (hen : tacEnable b.tac = true) (hlatch : b.lastTimerCycle ≤ b.cycle) :
    timerSync cfg b =
      { b with lastTimerCycle := b.cycle - b.sinceLatch % 2 ^ b.timaSh cfg }.countTo (b.timaCount cfg) := by
  have hphase : b.lastTimerCycle + b.sinceLatch / 2 ^ b.timaSh cfg * 2 ^ b.timaSh cfg =
      b.cycle - b.sinceLatch % 2 ^ b.timaSh cfg := by
    have hdiv := Nat.div_add_mod' b.sinceLatch (2 ^ b.timaSh cfg)
    have hsince : b.sinceLatch = b.cycle - b.lastTimerCycle := rfl
    omega
  rw [timerSync, if_pos hen, reloadLoop_eq le_rfl, Nat.shiftRight_eq_div_pow, Nat.shiftLeft_eq, ← hphase]
  rfl

/-! ### The spec's closed form -/

theorem pendingOf_eq_decide (ifr ie : Byte) : pendingOf ifr ie = decide (ifr &&& ie ≠ 0) := by
  simp [pendingOf, bne, BEq.beq]

/-- What counting up to `c` writes, field by field. -/
theorem countTo_eq (c : Nat) (b : Block) :
    b.countTo c = { b with
      tima := BitVec.ofNat 8 (if c < 256 then c else b.tma.toNat + (c - 256) % (256 - b.tma.toNat))
      ifr := if c < 256 then b.ifr else b.ifr ||| 0x04
      brk := b.brk || (decide (256 ≤ c) && decide ((b.ifr ||| 0x04) &&& b.ie ≠ 0)) } := by
  have hmask : IrqSource.timer.mask = 0x04 := rfl
  rw [← pendingOf_eq_decide, ← hmask]
  by_cases hc : c < 256
  · rw [Block.countTo, decide_eq_false (Nat.not_le.mpr hc), reloaded_of_lt hc, if_pos hc, if_pos hc, Bool.false_and,
      Bool.or_false]
    rfl
  · rw [Block.countTo, decide_eq_true (Nat.not_lt.mp hc), reloaded_of_le (Nat.not_lt.mp hc), if_neg hc, if_neg hc,
      Bool.true_and]
    rfl

/-- The shift counts of R171, by the value of TAC[1:0]. -/
theorem timaShift_tacFreq (v : Byte) : timaShift (tacFreq v) = ([10, 4, 6, 8] : List Nat).getD (v.toNat % 4) 0 := by
  have hfreq : (tacFreq v).toNat = v.toNat % 4 := by simp [tacFreq]
  have hlt : v.toNat % 4 < 4 := Nat.mod_lt _ (by decide)
  rw [timaShift, hfreq]
  generalize v.toNat % 4 = f at hlt
  interval_cases f <;> rfl

theorem timaSh_eq (cfg : Cfg) (b : Block) :
    b.timaSh cfg =
      ([10, 4, 6, 8] : List Nat).getD (b.tac.toNat % 4) 0 + cfg.timaDsScale.val * (if b.ds then 1 else 0) := by
  rw [Block.timaSh, timaShift_tacFreq]
  cases b.ds <;> rfl

/-- Settles O13: while the timer runs, by the closed form of the overflow loop; while it is stopped, at once. -/
theorem timerSyncHasTheClosedFormOfItsLoop : Obligations.TimerSyncHasTheClosedFormOfItsLoop := by
  intro cfg b hlatch
  simp only [← timaSh_eq]
  cases hen : tacEnable b.tac with
  | false => exact (timerSync_of_disabled hen).trans (if_neg (Bool.eq_false_iff.mp hen)).symm
  | true =>
    rw [timerSync_of_enabled hen hlatch, countTo_eq]
    exact (if_pos hen).symm

end Sys2Proof.Machine
end

section
/-! When `timer_sync()` runs does not matter (spec/41_timer.md R173, R186): two synchronisations are one, and one after
any number of cycles is the naive timer's count. -/

namespace Sys2Proof.Machine

variable {cfg : Cfg} {b c : Block}

/-! ### Time passing -/

@[simp] theorem elapse_cycle (b : Block) (n : Nat) : (b.elapse n).cycle = b.cycle + n := rfl
@[simp] theorem elapse_lastTimerCycle (b : Block) (n : Nat) : (b.elapse n).lastTimerCycle = b.lastTimerCycle := rfl
@[simp] theorem elapse_tima (b : Block) (n : Nat) : (b.elapse n).tima = b.tima := rfl
@[simp] theorem elapse_tma (b : Block) (n : Nat) : (b.elapse n).tma = b.tma := rfl
@[simp] theorem elapse_tac (b : Block) (n : Nat) : (b.elapse n).tac = b.tac := rfl
@[simp] theorem elapse_ifr (b : Block) (n : Nat) : (b.elapse n).ifr = b.ifr := rfl
@[simp] theorem elapse_timaSh (cfg : Cfg) (b : Block) (n : Nat) : (b.elapse n).timaSh cfg = b.timaSh cfg := rfl

@[simp] theorem timerSync_timaSh (cfg : Cfg) (b : Block) : (timerSync cfg b).timaSh cfg = b.timaSh cfg := by
  simp [Block.timaSh]

theorem elapse_elapse (b : Block) (m n : Nat) : (b.elapse m).elapse n = b.elapse (m + n) :=
  congrArg (fun k => { b with cycle := k }) (Nat.add_assoc b.cycle m n)

theorem sinceLatch_elapse (hlatch : b.lastTimerCycle ≤ b.cycle) (n : Nat) :
    (b.elapse n).sinceLatch = b.sinceLatch + n :=
  Nat.sub_add_comm hlatch

theorem timaCount_elapse (hlatch : b.lastTimerCycle ≤ b.cycle) (m : Nat) :
    (b.elapse m).timaCount cfg = b.tima.toNat + (b.sinceLatch + m) / 2 ^ b.timaSh cfg := by
  rw [Block.timaCount, sinceLatch_elapse hlatch, elapse_tima, elapse_timaSh]

/-! ### What `timer_sync()` leaves in the running timer (R172) -/

theorem timerSync_tima (hen : tacEnable b.tac = true) (hlatch : b.lastTimerCycle ≤ b.cycle) :
    (timerSync cfg b).tima = BitVec.ofNat 8 (reloaded b.tma.toNat (b.timaCount cfg)) := by
  rw [timerSync_of_enabled hen hlatch]
  rfl

theorem timerSync_tima_toNat (hen : tacEnable b.tac = true) (hlatch : b.lastTimerCycle ≤ b.cycle) :
    (timerSync cfg b).tima.toNat = reloaded b.tma.toNat (b.timaCount cfg) := by
  rw [timerSync_tima hen hlatch, BitVec.toNat_ofNat, Nat.mod_eq_of_lt (reloaded_lt b.tma.isLt _)]

theorem timerSync_ifr (hen : tacEnable b.tac = true) (hlatch : b.lastTimerCycle ≤ b.cycle) :
    (timerSync cfg b).ifr = if b.timaCount cfg < 256 then b.ifr else b.ifr ||| 0x04 := by
  rw [timerSync_of_enabled hen hlatch, countTo_eq]

theorem timerSync_sinceLatch (hen : tacEnable b.tac = true) (hlatch : b.lastTimerCycle ≤ b.cycle) :
    (timerSync cfg b).sinceLatch = b.sinceLatch % 2 ^ b.timaSh cfg := by
  have hle : b.sinceLatch % 2 ^ b.timaSh cfg ≤ b.cycle := (Nat.mod_le _ _).trans (Nat.sub_le _ _)
  rw [timerSync_of_enabled hen hlatch, countTo_eq]
  exact Nat.sub_sub_self hle

theorem timerSync_latch_le (hlatch : b.lastTimerCycle ≤ b.cycle) :
    (timerSync cfg b).lastTimerCycle ≤ (timerSync cfg b).cycle := by
  cases hen : tacEnable b.tac with
  | false => rw [timerSync_of_disabled hen]
  | true =>
    rw [timerSync_of_enabled hen hlatch, countTo_eq]
    exact Nat.sub_le _ _

theorem timerSync_synced (hlatch : b.lastTimerCycle ≤ b.cycle) : (timerSync cfg b).synced cfg := by
  cases hen : tacEnable b.tac with
  | false => simp [Block.synced, timerSync_of_disabled hen, hen]
  | true =>
    rw [Block.synced, timerSync_tac, if_pos hen, timerSync_timaSh, ← Block.sinceLatch,
      timerSync_sinceLatch hen hlatch]
    exact Nat.mod_lt _ (Nat.two_pow_pos _)

/-! ### An extra synchronisation -/

/-- Counting neither reads nor writes the cycle counter and the latch, and TIMA's old value is in the count already. -/
theorem countTo_clock (c k l : Nat) (v : Byte) (b : Block) :
    { b with cycle := k, lastTimerCycle := l, tima := v }.countTo c =
      { b.countTo c with cycle := k, lastTimerCycle := l } := by
  unfold Block.countTo
  cases decide (256 ≤ c) <;> rfl

/-- An overflow up to `c + d` happens on the way to `c` or after it. -/
theorem overflow_add (tma c d : Nat) :
    (decide (256 ≤ c) || decide (256 ≤ reloaded tma c + d)) = decide (256 ≤ c + d) := by
  by_cases hc : c < 256
  · simp [reloaded_of_lt hc, Nat.not_le.mpr hc]
  · simp [Nat.not_lt.mp hc, Nat.le_add_right_of_le (Nat.not_lt.mp hc)]

/-- Counting up to `c`, then `d` further after the clock has moved, is counting up to `c + d` (R186). -/
theorem countTo_countTo (c d k l : Nat) (b : Block) :
    { b.countTo c with cycle := k, lastTimerCycle := l }.countTo (reloaded b.tma.toNat c + d) =
      { b with cycle := k, lastTimerCycle := l }.countTo (c + d) := by
  calc { b.countTo c with cycle := k, lastTimerCycle := l }.countTo (reloaded b.tma.toNat c + d)
    _ = { (requestIf (decide (256 ≤ c)) .timer b).countTo (reloaded b.tma.toNat c + d) with
          cycle := k, lastTimerCycle := l } := countTo_clock _ k l _ (requestIf (decide (256 ≤ c)) .timer b)
    _ = { b.countTo (c + d) with cycle := k, lastTimerCycle := l } := by
        rw [countTo_requestIf (reloaded_add b.tma.isLt c d) (overflow_add _ c d)]
    _ = _ := (countTo_clock (c + d) k l b.tima b).symm

/-- The count after a synchronisation and `n` cycles goes on from the reloaded TIMA and the remainder the latch kept. -/
theorem timaCount_after_timerSync (hen : tacEnable b.tac = true) (hlatch : b.lastTimerCycle ≤ b.cycle) (n : Nat) :
    ((timerSync cfg b).elapse n).timaCount cfg =
      reloaded b.tma.toNat (b.timaCount cfg) + (b.sinceLatch % 2 ^ b.timaSh cfg + n) / 2 ^ b.timaSh cfg := by
  rw [Block.timaCount, elapse_tima, timerSync_tima_toNat hen hlatch, sinceLatch_elapse (timerSync_latch_le hlatch),
    timerSync_sinceLatch hen hlatch, elapse_timaSh, timerSync_timaSh]

/-- The count after `n` more cycles goes on from the count now and the remainder of the period. -/
theorem timaCount_elapse_of_timaCount (hlatch : b.lastTimerCycle ≤ b.cycle) (n : Nat) :
    (b.elapse n).timaCount cfg = b.timaCount cfg + (b.sinceLatch % 2 ^ b.timaSh cfg + n) / 2 ^ b.timaSh cfg := by
  have hperiod := Nat.two_pow_pos (b.timaSh cfg)
  have hsplit : (b.sinceLatch + n) / 2 ^ b.timaSh cfg =
      b.sinceLatch / 2 ^ b.timaSh cfg + (b.sinceLatch % 2 ^ b.timaSh cfg + n) / 2 ^ b.timaSh cfg := by
    conv_lhs => rw [← Nat.div_add_mod b.sinceLatch (2 ^ b.timaSh cfg), Nat.add_assoc, Nat.mul_add_div hperiod]
  rw [timaCount_elapse hlatch, hsplit, ← Nat.add_assoc, Block.timaCount]

/-- After a synchronisation and `n` more cycles, another one does what one alone does after the `n` cycles (R186). -/
theorem timerSync_elapse_timerSync (hlatch : b.lastTimerCycle ≤ b.cycle) (n : Nat) :
    timerSync cfg ((timerSync cfg b).elapse n) = timerSync cfg (b.elapse n) := by
  have hlatch' : (b.elapse n).lastTimerCycle ≤ (b.elapse n).cycle := Nat.le_add_right_of_le hlatch
  have hsync' : ((timerSync cfg b).elapse n).lastTimerCycle ≤ ((timerSync cfg b).elapse n).cycle :=
    Nat.le_add_right_of_le (timerSync_latch_le hlatch)
  cases hen : tacEnable b.tac with
  | false =>
    rw [timerSync_of_disabled (b := b.elapse n) hen, timerSync_of_disabled (by simpa using hen),
      timerSync_of_disabled hen]
    rfl
  | true =>
    rw [timerSync_of_enabled (b := b.elapse n) hen hlatch', timerSync_of_enabled (by simpa using hen) hsync',
      timaCount_after_timerSync hen hlatch, timaCount_elapse_of_timaCount hlatch, sinceLatch_elapse hlatch,
      sinceLatch_elapse (timerSync_latch_le hlatch), timerSync_sinceLatch hen hlatch, elapse_timaSh, elapse_timaSh,
      timerSync_timaSh, Nat.mod_add_mod, elapse_cycle, elapse_cycle, timerSync_cycle, timerSync_of_enabled hen hlatch]
    exact countTo_countTo _ _ _ _ { b with lastTimerCycle := b.cycle - b.sinceLatch % 2 ^ b.timaSh cfg }

/-- Settles O15: the middle synchronisation adds nothing to the last one. -/
theorem synchronisingAtExtraPointsChangesNothing : Obligations.SynchronisingAtExtraPointsChangesNothing := by
  intro cfg b m n hlatch
  rw [timerSync_elapse_timerSync (Nat.le_add_right_of_le hlatch), elapse_elapse]

/-! ### The naive timer (R186) -/

/-- The naive timer `t` reads as the aggregate `b` does, counting requests since IF was `ifr`. -/
def NaiveTimer.shows (t : NaiveTimer) (ifr : Byte) (b : Block) : Prop :=
  b.tima = t.tima ∧ b.sinceLatch = t.sub ∧ b.ifr = if t.requests = 0 then ifr else ifr ||| 0x04

/-- Within a period only the prescaler moves. -/
theorem NaiveTimer.cycle_within {sh : Nat} {tma : Byte} {t : NaiveTimer} (h : t.sub + 1 ≠ 2 ^ sh) :
    t.cycle true sh tma = { t with sub := t.sub + 1 } := by
  rw [NaiveTimer.cycle, if_pos rfl, if_neg h]

/-- At the end of a period TIMA counts, with a request at its overflow. -/
theorem NaiveTimer.cycle_end {sh : Nat} {tma : Byte} {t : NaiveTimer} (h : t.sub + 1 = 2 ^ sh) :
    t.cycle true sh tma =
      if t.tima = 0xFF then ⟨0, tma, t.requests + 1⟩ else ⟨0, t.tima + 1, t.requests⟩ := by
  rw [NaiveTimer.cycle, if_pos rfl, if_pos h]

/-- One cycle and a synchronisation of the running timer do what one cycle of the naive timer does (R185, R186). -/
theorem NaiveTimer.shows_cycle_of_enabled {t : NaiveTimer} {ifr : Byte} (hen : tacEnable b.tac = true)
    (hlatch : b.lastTimerCycle ≤ b.cycle) (hsync : b.synced cfg) (h : t.shows ifr b) :
    (t.cycle true (b.timaSh cfg) b.tma).shows ifr (timerSync cfg (b.elapse 1)) := by
  obtain ⟨htima, hsub, hifr⟩ := h
  have hen' : tacEnable (b.elapse 1).tac = true := hen
  have hlatch' : (b.elapse 1).lastTimerCycle ≤ (b.elapse 1).cycle := Nat.le_add_right_of_le hlatch
  have hlt : t.sub < 2 ^ b.timaSh cfg := by
    rw [Block.synced, if_pos hen] at hsync
    exact hsub ▸ hsync
  have hsince : (b.elapse 1).sinceLatch = t.sub + 1 := by rw [sinceLatch_elapse hlatch, hsub]
  have hcount : (b.elapse 1).timaCount cfg = t.tima.toNat + (t.sub + 1) / 2 ^ b.timaSh cfg := by
    rw [timaCount_elapse hlatch, htima, hsub]
  rw [NaiveTimer.shows, timerSync_tima hen' hlatch', timerSync_sinceLatch hen' hlatch', timerSync_ifr hen' hlatch',
    hcount, hsince, elapse_tma, elapse_ifr, elapse_timaSh]
  have hbyte := t.tima.isLt
  by_cases hend : t.sub + 1 = 2 ^ b.timaSh cfg
  · rw [cycle_end hend, hend, Nat.div_self (Nat.two_pow_pos _), Nat.mod_self]
    split
    · next hmax =>
      refine ⟨?_, rfl, ?_⟩
      · simp [hmax, reloaded]
      · have honce : (if t.requests = 0 then ifr else ifr ||| 0x04) ||| 0x04 = ifr ||| 0x04 := by
          split
          · rfl
          · rw [BitVec.or_assoc, BitVec.or_self]
        simpa [hmax, hifr] using honce
    · next hmax =>
      have hnot : t.tima.toNat ≠ 255 := fun h255 => hmax (BitVec.eq_of_toNat_eq h255)
      have hfits : t.tima.toNat + 1 < 256 := by omega
      rw [reloaded_of_lt hfits, if_pos hfits]
      refine ⟨?_, rfl, hifr⟩
      simp [BitVec.ofNat_add]
  · have hwithin : t.sub + 1 < 2 ^ b.timaSh cfg := by omega
    rw [cycle_within hend, Nat.div_eq_of_lt hwithin, Nat.mod_eq_of_lt hwithin, Nat.add_zero, reloaded_of_lt hbyte,
      if_pos hbyte]
    exact ⟨(BitVec.ofNat_toNat 8 t.tima).trans (BitVec.setWidth_eq t.tima), rfl, hifr⟩

/-- One cycle and a synchronisation do what one cycle of the naive timer does (R186). -/
theorem NaiveTimer.shows_cycle {t : NaiveTimer} {ifr : Byte} (hlatch : b.lastTimerCycle ≤ b.cycle)
    (hsync : b.synced cfg) (h : t.shows ifr b) :
    (t.cycle (tacEnable b.tac) (b.timaSh cfg) b.tma).shows ifr (timerSync cfg (b.elapse 1)) := by
  cases hen : tacEnable b.tac with
  | false =>
    obtain ⟨htima, -, hifr⟩ := h
    rw [timerSync_of_disabled (b := b.elapse 1) hen]
    exact ⟨htima, Nat.sub_self _, hifr⟩
  | true => exact shows_cycle_of_enabled hen hlatch hsync h

/-- Any number of cycles and one synchronisation do what as many cycles of the naive timer do (R186). -/
theorem NaiveTimer.shows_run {t : NaiveTimer} {ifr : Byte} (n : Nat) (hlatch : b.lastTimerCycle ≤ b.cycle)
    (hsync : b.synced cfg) (h : t.shows ifr b) :
    (NaiveTimer.run (tacEnable b.tac) (b.timaSh cfg) b.tma n t).shows ifr (timerSync cfg (b.elapse n)) := by
  induction n generalizing t b with
  | zero => exact (timerSync_of_synced hsync : timerSync cfg (b.elapse 0) = b).symm ▸ h
  | succ n ih =>
    have hlatch' : (b.elapse 1).lastTimerCycle ≤ (b.elapse 1).cycle := Nat.le_add_right_of_le hlatch
    have hrest := ih (timerSync_latch_le hlatch') (timerSync_synced hlatch') (shows_cycle hlatch hsync h)
    rwa [timerSync_elapse_timerSync hlatch', elapse_elapse, Nat.add_comm 1 n, timerSync_tac, timerSync_tma,
      timerSync_timaSh] at hrest

/-- Settles O14: the naive timer started from a synchronised timer with no request counted shows its aggregate. -/
theorem lazyTimerEqualsTheNaiveTimer : Obligations.LazyTimerEqualsTheNaiveTimer :=
  fun _ _ n hlatch hsync => NaiveTimer.shows_run n hlatch hsync ⟨rfl, rfl, rfl⟩

end Sys2Proof.Machine
end

section
/-! TICK and the timer (spec/41_timer.md R183 to R186): the display leaves the timer and its request bit alone, so `n`
single cycles are one synchronisation after `n` cycles, and `timerCounter` counts the cycles to the next overflow. -/

namespace Sys2Proof.Machine

variable {cfg : Cfg} {w : Bool} {b c : Block} {n : Nat}

/-! ### IF[2] under the display's requests -/

/-- `IF[2]`, the timer's request (R255). -/
def Block.timerRequest (b : Block) : Bool := b.ifr.getLsbD 2

@[simp] theorem requestIf_timerRequest {src : IrqSource} (h : src ≠ .timer) (en : Bool) (b : Block) :
    (requestIf en src b).timerRequest = b.timerRequest := by
  have hmask : src.mask.getLsbD 2 = false := by
    cases src with
    | timer => exact absurd rfl h
    | _ => rfl
  cases en with
  | false => rfl
  | true =>
    rw [Block.timerRequest, requestIf, if_pos rfl, requestInterrupt_ifr, BitVec.getLsbD_or, hmask, Bool.or_false,
      Block.timerRequest]

@[simp] theorem lycCheck_timerRequest (b : Block) : (lycCheck b).timerRequest = b.timerRequest :=
  requestIf_timerRequest (src := .stat) (by decide) _ b

@[simp] theorem newLine_timerRequest (b : Block) (v : Byte) : (b.newLine v).timerRequest = b.timerRequest :=
  lycCheck_timerRequest { b with ly := v }

@[simp] theorem enterMode2_timerRequest (b : Block) : (enterMode2 b).timerRequest = b.timerRequest :=
  requestIf_timerRequest (src := .stat) (by decide) _ (b.withMode 2)

theorem mode3To0_timerRequest (b : Block) : (mode3To0 b).1.timerRequest = b.timerRequest :=
  requestIf_timerRequest (src := .stat) (by decide) _ (b.withMode 0)

theorem endOfMode0_timerRequest (b : Block) : (endOfMode0 b).1.timerRequest = b.timerRequest := by
  unfold endOfMode0
  simp only
  split
  · calc (requestIf _ .stat (requestIf true .vblank ((b.newLine (b.ly + 1)).withMode 1))).timerRequest
      _ = (requestIf true .vblank ((b.newLine (b.ly + 1)).withMode 1)).timerRequest :=
          requestIf_timerRequest (by decide) _ _
      _ = (b.newLine (b.ly + 1)).timerRequest := requestIf_timerRequest (by decide) _ _
      _ = b.timerRequest := newLine_timerRequest b _
  · rw [enterMode2_timerRequest, newLine_timerRequest]

theorem endOfMode1_timerRequest (b : Block) : (endOfMode1 b).1.timerRequest = b.timerRequest := by
  unfold endOfMode1
  split
  · exact newLine_timerRequest b _
  · split
    · exact newLine_timerRequest b _
    · exact (enterMode2_timerRequest _).trans (newLine_timerRequest b _)

theorem transition_timerRequest (b : Block) : (transition b).1.timerRequest = b.timerRequest := by
  unfold transition
  split
  · rfl
  · exact mode3To0_timerRequest b
  · exact endOfMode0_timerRequest b
  · exact endOfMode1_timerRequest b

/-- The display requests VBlank and STAT only (R225). -/
theorem lcdStep_timerRequest (b : Block) : (lcdStep b).1.timerRequest = b.timerRequest := by
  unfold lcdStep
  split
  · split
    · exact transition_timerRequest { b with scanlineCounter := 0 }
    · rfl
  · unfold offStep
    split <;> rfl

/-! ### What the timer reads and writes -/

/-- The registers `timer_sync()` reads, and the timer's request. -/
def Block.timerPart (b : Block) : Nat × Nat × Byte × Byte × Byte × Bool × Bool :=
  (b.cycle, b.lastTimerCycle, b.tima, b.tma, b.tac, b.ds, b.timerRequest)

theorem lcdStep_timerPart (b : Block) : (lcdStep b).1.timerPart = b.timerPart := by
  rw [Block.timerPart, lcdStep_timerRequest, lcdStep_frame]
  rfl

theorem timerSync_timerRequest (hlatch : b.lastTimerCycle ≤ b.cycle) :
    (timerSync cfg b).timerRequest = (b.timerRequest || (tacEnable b.tac && decide (256 ≤ b.timaCount cfg))) := by
  cases hen : tacEnable b.tac with
  | false =>
    rw [timerSync_of_disabled hen, Bool.false_and, Bool.or_false]
    rfl
  | true =>
    rw [Block.timerRequest, timerSync_ifr hen hlatch, Bool.true_and]
    split
    · next hc => rw [decide_eq_false (Nat.not_le.mpr hc), Bool.or_false, Block.timerRequest]
    · next hc =>
      rw [decide_eq_true (Nat.not_lt.mp hc), Bool.or_true, BitVec.getLsbD_or]
      exact Bool.or_true _

/-- `timer_sync()` reads the timer's part only. -/
theorem timerSync_timerPart_congr (hlatch : b.lastTimerCycle ≤ b.cycle) (h : c.timerPart = b.timerPart) :
    (timerSync cfg c).timerPart = (timerSync cfg b).timerPart := by
  simp only [Block.timerPart, Prod.mk.injEq] at h
  obtain ⟨hcycle, hlast, htima, htma, htac, hds, hreq⟩ := h
  have hlatch' : c.lastTimerCycle ≤ c.cycle := hcycle ▸ hlast ▸ hlatch
  have hsh : c.timaSh cfg = b.timaSh cfg := by rw [Block.timaSh, htac, hds, Block.timaSh]
  have hcount : c.timaCount cfg = b.timaCount cfg := by
    rw [Block.timaCount, Block.sinceLatch, htima, hcycle, hlast, hsh, Block.timaCount, Block.sinceLatch]
  have htima' : (timerSync cfg c).tima = (timerSync cfg b).tima := by
    cases hen : tacEnable b.tac with
    | false => rw [timerSync_of_disabled (htac ▸ hen), timerSync_of_disabled hen, htima]
    | true => rw [timerSync_tima (htac ▸ hen) hlatch', timerSync_tima hen hlatch, htma, hcount]
  simp only [Block.timerPart, timerSync_cycle, timerSync_lastTimerCycle, timerSync_tma, timerSync_tac, timerSync_ds,
    timerSync_timerRequest hlatch, timerSync_timerRequest hlatch', htima', hcycle, hlast, htma, htac, hds, hreq, hsh,
    hcount]

theorem elapse_timerPart_congr (h : c.timerPart = b.timerPart) (n : Nat) :
    (c.elapse n).timerPart = (b.elapse n).timerPart :=
  congrArg (Prod.map (· + n) id) h

/-- To the timer, the single-cycle step is one cycle and a synchronisation (R281). -/
theorem cycleStep_timerPart (hlatch : b.lastTimerCycle ≤ b.cycle) :
    (cycleStep cfg b).1.timerPart = (timerSync cfg (b.elapse 1)).timerPart :=
  (lcdStep_timerPart _).trans (timerSync_timerPart_congr (Nat.le_add_right_of_le hlatch) rfl)

/-- To the timer, `n` single cycles are one synchronisation after `n` cycles (R186, R280). -/
theorem cycles_timerPart (n : Nat) (h : b.Inv cfg w) :
    (cycles cfg n b).1.timerPart = (timerSync cfg (b.elapse n)).timerPart := by
  induction n generalizing b with
  | zero =>
    obtain ⟨-, hsync⟩ := h.clock
    exact congrArg Block.timerPart (timerSync_of_synced hsync).symm
  | succ n ih =>
    obtain ⟨⟨hlatch, -⟩, -⟩ := h.clock
    have hlatch1 : (b.elapse 1).lastTimerCycle ≤ (b.elapse 1).cycle := Nat.le_add_right_of_le hlatch
    calc (cycles cfg n (cycleStep cfg b).1).1.timerPart
      _ = (timerSync cfg ((cycleStep cfg b).1.elapse n)).timerPart := ih h.after_cycleStep
      _ = (timerSync cfg ((timerSync cfg (b.elapse 1)).elapse n)).timerPart :=
          timerSync_timerPart_congr (Nat.le_add_right_of_le (timerSync_latch_le hlatch1))
            (elapse_timerPart_congr (cycleStep_timerPart hlatch) n)
      _ = (timerSync cfg (b.elapse (n + 1))).timerPart := by
          rw [timerSync_elapse_timerSync hlatch1, elapse_elapse, Nat.add_comm 1 n]

theorem cycles_tima (n : Nat) (h : b.Inv cfg w) : (cycles cfg n b).1.tima = (timerSync cfg (b.elapse n)).tima :=
  congrArg (·.2.2.1) (cycles_timerPart n h)

theorem cycles_timerRequest (n : Nat) (h : b.Inv cfg w) :
    (cycles cfg n b).1.timerRequest = (timerSync cfg (b.elapse n)).timerRequest :=
  congrArg (·.2.2.2.2.2.2) (cycles_timerPart n h)

/-! ### The countdown (R184) -/

theorem timerCounter_eq_none_iff (cfg : Cfg) (b : Block) : b.timerCounter cfg = none ↔ tacEnable b.tac = false := by
  cases hen : tacEnable b.tac <;> simp [Block.timerCounter, hen]

/-- While the countdown runs, the latch difference is below one period, and both together are the periods TIMA still has
to count. -/
theorem sinceLatch_add_timerCounter (hsync : b.synced cfg) (hn : b.timerCounter cfg = some n) :
    tacEnable b.tac = true ∧ b.sinceLatch < 2 ^ b.timaSh cfg ∧
      b.sinceLatch + n = (256 - b.tima.toNat) * 2 ^ b.timaSh cfg := by
  have hen : tacEnable b.tac = true := by
    by_contra hdis
    rw [(timerCounter_eq_none_iff cfg b).mpr (Bool.eq_false_iff.mpr hdis)] at hn
    cases hn
  rw [Block.synced, if_pos hen, ← Block.sinceLatch] at hsync
  rw [Block.timerCounter, if_pos hen, Option.some.injEq, ← Block.sinceLatch, Nat.shiftLeft_eq] at hn
  have hperiod : 2 ^ b.timaSh cfg ≤ (256 - b.tima.toNat) * 2 ^ b.timaSh cfg :=
    Nat.le_mul_of_pos_left _ (Nat.sub_pos_of_lt b.tima.isLt)
  exact ⟨hen, hsync, hn ▸ Nat.add_sub_of_le (hsync.le.trans hperiod)⟩

/-- The countdown is positive and at most 256 periods. -/
theorem timerCounter_bounds (hsync : b.synced cfg) (hn : b.timerCounter cfg = some n) :
    1 ≤ n ∧ n ≤ 256 <<< b.timaSh cfg := by
  obtain ⟨-, hlt, hsum⟩ := sinceLatch_add_timerCounter hsync hn
  have hlow : 2 ^ b.timaSh cfg ≤ (256 - b.tima.toNat) * 2 ^ b.timaSh cfg :=
    Nat.le_mul_of_pos_left _ (Nat.sub_pos_of_lt b.tima.isLt)
  have hhigh : (256 - b.tima.toNat) * 2 ^ b.timaSh cfg ≤ 256 * 2 ^ b.timaSh cfg :=
    Nat.mul_le_mul_right _ (Nat.sub_le _ _)
  rw [Nat.shiftLeft_eq]
  omega

/-- Before the countdown is over TIMA does not overflow. -/
theorem timaCount_before_timerCounter {m : Nat} (hlatch : b.lastTimerCycle ≤ b.cycle) (hsync : b.synced cfg)
    (hn : b.timerCounter cfg = some n) (hm : m < n) : (b.elapse m).timaCount cfg < 256 := by
  obtain ⟨-, -, hsum⟩ := sinceLatch_add_timerCounter hsync hn
  have hticks : (b.sinceLatch + m) / 2 ^ b.timaSh cfg < 256 - b.tima.toNat :=
    Nat.div_lt_of_lt_mul (by rw [Nat.mul_comm]; omega)
  rw [timaCount_elapse hlatch]
  omega

/-- When the countdown is over TIMA overflows just then. -/
theorem timaCount_at_timerCounter (hlatch : b.lastTimerCycle ≤ b.cycle) (hsync : b.synced cfg)
    (hn : b.timerCounter cfg = some n) : (b.elapse n).timaCount cfg = 256 := by
  obtain ⟨-, -, hsum⟩ := sinceLatch_add_timerCounter hsync hn
  rw [timaCount_elapse hlatch, hsum, Nat.mul_div_cancel _ (Nat.two_pow_pos _)]
  exact Nat.add_sub_of_le b.tima.isLt.le

/-- Settles O16: `n` cycles of TICK are one synchronisation, which overflows at the countdown and not before. -/
theorem timerCounterIsTheExactNextOverflow : Obligations.TimerCounterIsTheExactNextOverflow := by
  intro s hs
  obtain ⟨-, hinv⟩ := (inv_iff s).mp hs
  obtain ⟨⟨hlatch, -⟩, hsync⟩ := hinv.clock
  refine ⟨timerCounter_eq_none_iff s.cfg s.blk, fun n hn => ?_⟩
  obtain ⟨hlow, hhigh⟩ := timerCounter_bounds hsync hn
  obtain ⟨hen, -, -⟩ := sinceLatch_add_timerCounter hsync hn
  have hcount := timaCount_at_timerCounter hlatch hsync hn
  have hlatched (k : Nat) : (s.blk.elapse k).lastTimerCycle ≤ (s.blk.elapse k).cycle := Nat.le_add_right_of_le hlatch
  have hrequest (k : Nat) : (cycles s.cfg k s.blk).1.timerRequest =
      (s.blk.timerRequest || decide (256 ≤ (s.blk.elapse k).timaCount s.cfg)) := by
    rw [cycles_timerRequest k hinv, timerSync_timerRequest (hlatched k), elapse_tac, hen, Bool.true_and]
    rfl
  refine ⟨hlow, hhigh, fun m hm => ?_, ?_, ?_⟩
  · have hbefore := timaCount_before_timerCounter hlatch hsync hn hm
    exact (hrequest m).trans (by rw [decide_eq_false (Nat.not_le.mpr hbefore), Bool.or_false]; rfl)
  · exact (hrequest n).trans (by rw [hcount]; exact Bool.or_true _)
  · rw [cycles_tima n hinv, timerSync_tima (b := s.blk.elapse n) hen (hlatched n), hcount, elapse_tma]
    simp [reloaded]

end Sys2Proof.Machine
end

section
/-! The divider and the register accesses (spec/41_timer.md R173 to R182, R187; spec/42_lcd_timing.md R201, R203, R205,
R208; spec/43_interrupt_controller.md R250, R252). -/

namespace Sys2Proof.Machine

variable {cfg : Cfg} {b : Block}

/-! ### The divider under TICK (R187) -/

/-- The single-cycle step counts one cycle and keeps the divider's latch (R281). -/
theorem cycleStep_dividerPart (cfg : Cfg) (b : Block) :
    (cycleStep cfg b).1.cycle = b.cycle + 1 ∧ (cycleStep cfg b).1.lastDividerCycle = b.lastDividerCycle := by
  rw [cycleStep, lcdStep_frame]
  exact ⟨timerSync_cycle cfg b.countCycle, timerSync_lastDividerCycle cfg b.countCycle⟩

/-- `n` single cycles count `n` cycles and keep the divider's latch (R280). -/
theorem cycles_dividerPart (cfg : Cfg) (n : Nat) (b : Block) :
    (cycles cfg n b).1.cycle = b.cycle + n ∧ (cycles cfg n b).1.lastDividerCycle = b.lastDividerCycle := by
  induction n generalizing b with
  | zero => exact ⟨rfl, rfl⟩
  | succ n ih =>
    obtain ⟨hcycle, hlast⟩ := cycleStep_dividerPart cfg b
    obtain ⟨ihcycle, ihlast⟩ := ih (cycleStep cfg b).1
    exact ⟨by rw [cycles, ihcycle, hcycle, Nat.add_assoc, Nat.add_comm 1 n], ihlast.trans hlast⟩

theorem divByte_toNat (b : Block) : b.divByte.toNat = (b.cycle - b.lastDividerCycle) % 65536 / 256 := by
  rw [Block.divByte, BitVec.toNat_ofNat, Nat.shiftRight_eq_div_pow]
  exact (Nat.mod_mul_right_div_self (b.cycle - b.lastDividerCycle) 256 256).symm

/-- `n` cycles after the divider was latched, DIV reads `n / 256`. -/
theorem divByte_cycles_of_latched (hlast : b.lastDividerCycle = b.cycle) (n : Nat) :
    (cycles cfg n b).1.divByte = BitVec.ofNat 8 (n / 256) := by
  obtain ⟨hcycle, hkept⟩ := cycles_dividerPart cfg n b
  rw [Block.divByte, hcycle, hkept, hlast, Nat.add_sub_cancel_left, Nat.shiftRight_eq_div_pow]
  rfl

/-- Settles O10: the cycles since the latch WR_DIV sets are the `n` of TICK. -/
theorem divCountsTicksSinceItsWrite : Obligations.DivCountsTicksSinceItsWrite := by
  intro s v n
  have hread := divByte_cycles_of_latched (cfg := s.cfg) (b := { s.blk with lastDividerCycle := s.blk.cycle }) rfl n
  exact ⟨_, _, rfl, rfl, congrArg (answerByte _) hread⟩

/-! ### The accesses -/

/-- Settles O8: RD_DIV answers `divByte`, the high byte of the count. -/
theorem divReadIsTheHighByteOfTheDividerCount : Obligations.DivReadIsTheHighByteOfTheDividerCount :=
  fun s => ⟨s.blk.divByte, rfl, divByte_toNat s.blk⟩

/-- Settles O9: WR_DIV only moves the divider's latch (R176). -/
theorem divWriteLatchesTheCycle : Obligations.DivWriteLatchesTheCycle := fun _ _ => rfl

/-- Settles O11: each of the four accesses completes with the synchronised aggregate and its own store (R173). -/
theorem timaAccessesSynchroniseFirst : Obligations.TimaAccessesSynchroniseFirst :=
  fun _ _ => ⟨rfl, rfl, rfl, rfl⟩

/-- Settles O12: each of the eight reads is `answerByte` of its register (R179, R181, R201 to R208, R250, R252). -/
theorem registerReadsReturnTheStoredByte : Obligations.RegisterReadsReturnTheStoredByte :=
  fun _ => ⟨rfl, rfl, rfl, rfl, rfl, rfl, rfl, rfl⟩

end Sys2Proof.Machine
end

section
/-! The display's operations as one request each (spec/42_lcd_timing.md R213 to R220): what a write of STAT does to its
other bits, and each operation as a write of the display's registers followed by the requests it makes. -/

namespace Sys2Proof.Machine

variable {b : Block} {m : BitVec 2} {f : Bool} {st : Byte}

/-! ### The fields of STAT after its writes (R30) -/

theorem statWithMode_bit {i : Nat} (hi : 2 ≤ i) (h8 : i < 8) : (statWithMode st m).getLsbD i = st.getLsbD i := by
  interval_cases i <;> simp [statWithMode]

theorem statWithMatch_bit {i : Nat} (hi : 3 ≤ i) (h8 : i < 8) : (statWithMatch st f).getLsbD i = st.getLsbD i := by
  cases f <;> interval_cases i <;> simp [statWithMatch]

/-- Writing the mode STAT already shows changes nothing. -/
theorem statWithMode_self (h : st.extractLsb' 0 2 = m) : statWithMode st m = st := by
  subst h
  ext i hi
  interval_cases i <;> simp [statWithMode]

/-- With the mode and the match flag written, the enable bits are the old ones. -/
theorem statWithMode_statWithMatch (st : Byte) (f : Bool) (m : BitVec 2) :
    statWithMode (statWithMatch st f) m = (st &&& 0xF8) ||| (if f then 0x04 else 0x00) ||| m.zeroExtend 8 := by
  rw [statWithMode, statWithMatch, BitVec.and_or_distrib_right, BitVec.and_assoc]
  cases f <;> rfl

theorem statWithMatch_statWithMode (st : Byte) (f : Bool) (m : BitVec 2) :
    statWithMatch (statWithMode st m) f = statWithMode (statWithMatch st f) m := by
  ext i hi
  cases f <;> interval_cases i <;> simp [statWithMode, statWithMatch]

theorem statWithMatch_eq (st : Byte) (f : Bool) : statWithMatch st f = if f then st ||| 0x04 else st &&& 0xFB := by
  cases f with
  | false => exact BitVec.or_zero
  | true =>
    ext i hi
    interval_cases i <;> simp [statWithMatch]

/-! ### Requests (R254) -/

/-- The bits of `k` are requested: IF gains them, then the break test. -/
def Block.raise (k : Byte) (b : Block) : Block :=
  { b with ifr := b.ifr ||| k, brk := b.brk || pendingOf (b.ifr ||| k) b.ie }

/-- More requests leave a pending interrupt pending. -/
theorem pendingOf_or {ifr ie : Byte} (h : pendingOf ifr ie = true) (k : Byte) : pendingOf (ifr ||| k) ie = true := by
  rw [pendingOf_eq_decide, decide_eq_true_eq] at h ⊢
  rw [BitVec.and_or_distrib_right]
  exact fun hzero => h (BitVec.or_eq_zero_iff.mp hzero).1

/-- Two requests are one request of both. -/
theorem raise_raise (j k : Byte) (b : Block) : (b.raise j).raise k = b.raise (j ||| k) := by
  have hbrk : (b.brk || pendingOf (b.ifr ||| j) b.ie || pendingOf (b.ifr ||| j ||| k) b.ie) =
      (b.brk || pendingOf (b.ifr ||| j ||| k) b.ie) := by
    cases hpend : pendingOf (b.ifr ||| j) b.ie with
    | false => rw [Bool.or_false]
    | true => rw [pendingOf_or hpend, Bool.or_true, Bool.or_true]
  simp only [Block.raise, hbrk, ← BitVec.or_assoc]

/-- A conditional STAT request, field by field. -/
theorem requestIf_stat_eq (p : Bool) (b : Block) :
    requestIf p .stat b = { b with
      ifr := if p then b.ifr ||| 0x02 else b.ifr
      brk := b.brk || (p && decide ((b.ifr ||| 0x02) &&& b.ie ≠ 0)) } := by
  rw [← pendingOf_eq_decide]
  cases p with
  | false => rw [Bool.false_and, Bool.or_false]; rfl
  | true => rfl

/-- VBlank's request with STAT requests before and after it is one request (R216). -/
theorem requestIf_vblank_requestIf (p q : Bool) (b : Block) :
    requestIf q .stat (requestInterrupt .vblank (requestIf p .stat b)) =
      b.raise (0x01 ||| if p || q then 0x02 else 0x00) := by
  cases p with
  | false =>
    cases q with
    | false => rfl
    | true => exact raise_raise 0x01 0x02 b
  | true =>
    have hboth : requestInterrupt .vblank (requestInterrupt .stat b) = b.raise 0x03 := raise_raise 0x02 0x01 b
    cases q with
    | false => exact hboth
    | true => exact (congrArg (Block.raise 0x02) hboth).trans (raise_raise 0x03 0x02 b)

/-! ### The display's registers -/

/-- The LYC interrupt is due at line `v`: a new match, enabled (R220). -/
def Block.newMatch (b : Block) (v : Byte) : Bool := decide (v = b.lyc) && !b.lycMatch && b.intLyc

/-- Line `v` shown, with its match flag. -/
def Block.showLine (b : Block) (v : Byte) : Block :=
  { b with ly := v, stat := statWithMatch b.stat (decide (v = b.lyc)) }

/-- Mode `m` shown, with `n << ds` cycles to go. -/
def Block.showPhase (b : Block) (m : BitVec 2) (n : Nat) : Block :=
  { b with stat := statWithMode b.stat m, scanlineCounter := b.scaled n }

theorem showPhase_requestIf (p : Bool) (src : IrqSource) (b : Block) (m : BitVec 2) (n : Nat) :
    (requestIf p src b).showPhase m n = requestIf p src (b.showPhase m n) := by
  cases p <;> rfl

/-- `lyc_check()` as a request (R220). -/
theorem lycCheck_eq (b : Block) : lycCheck b = requestIf (b.newMatch b.ly) .stat (b.showLine b.ly) := by
  rw [lycCheck, ← Block.newMatch]
  cases b.newMatch b.ly <;> rfl

theorem newLine_eq (b : Block) (v : Byte) : b.newLine v = requestIf (b.newMatch v) .stat (b.showLine v) :=
  lycCheck_eq { b with ly := v }

/-- `enter_mode2()` as a request (R213). -/
theorem enterMode2_eq (b : Block) : enterMode2 b = requestIf b.intMode2 .stat (b.showPhase 2 Config.mode2Cycles) := by
  rw [enterMode2]
  cases b.intMode2 <;> rfl

/-- Mode 2 entered on a new line: the requests of both (R213, R220). -/
theorem enterMode2_newLine (b : Block) (v : Byte) :
    enterMode2 (b.newLine v) =
      requestIf (b.newMatch v || b.intMode2) .stat ((b.showLine v).showPhase 2 Config.mode2Cycles) := by
  have hint : (b.newLine v).intMode2 = b.intMode2 := by
    rw [Block.intMode2, Block.newLine, lycCheck_stat, statWithMatch_bit (by decide) (by decide), Block.intMode2]
  rw [enterMode2_eq, hint, newLine_eq, showPhase_requestIf, requestIf_requestIf]

/-- Mode 3 to Mode 0 as a request (R215). -/
theorem mode3To0_eq (b : Block) :
    mode3To0 b = (requestIf b.intMode0 .stat (b.showPhase 0 Config.mode0Cycles), [.hookScanlineEnd, .hdmaHblank]) := by
  rw [mode3To0]
  cases b.intMode0 <;> rfl

/-- The aggregate at the start of VBlank: line 144, Mode 1, VBlank's request and, if due, STAT's (R216). -/
def Block.startVblank (b : Block) : Block :=
  { ((b.showLine Config.vblankLy).showPhase 1 Config.lineCycles).raise
      (0x01 ||| if b.newMatch Config.vblankLy || b.intMode1 then 0x02 else 0x00) with cyclesSinceVblank := 0 }

theorem endOfMode0_of_vblank (h : b.ly + 1 = Config.vblankLy) : endOfMode0 b = (b.startVblank, [.retVblank]) := by
  have hint : (requestInterrupt .vblank ((b.newLine Config.vblankLy).withMode 1)).intMode1 = b.intMode1 := by
    rw [Block.intMode1, requestInterrupt_stat, Block.withMode, statWithMode_bit (by decide) (by decide), Block.newLine,
      lycCheck_stat, statWithMatch_bit (by decide) (by decide), Block.intMode1]
  have hphase (q : Bool) (c : Block) :
      { requestIf q .stat (requestInterrupt .vblank (c.withMode 1)) with
        scanlineCounter := (requestIf q .stat (requestInterrupt .vblank (c.withMode 1))).scaled Config.lineCycles
        cyclesSinceVblank := 0 } =
      { requestIf q .stat (requestInterrupt .vblank (c.showPhase 1 Config.lineCycles)) with
        cyclesSinceVblank := 0 } := by
    cases q <;> rfl
  rw [endOfMode0, h]
  simp only [newLine_ly, if_true, hint, hphase]
  rw [newLine_eq, showPhase_requestIf, requestIf_vblank_requestIf, Block.startVblank]

theorem endOfMode0_of_drawn (h : b.ly + 1 ≠ Config.vblankLy) :
    endOfMode0 b =
      (requestIf (b.newMatch (b.ly + 1) || b.intMode2) .stat ((b.showLine (b.ly + 1)).showPhase 2 Config.mode2Cycles),
        []) := by
  rw [endOfMode0, ← enterMode2_newLine]
  exact if_neg ((newLine_ly b _).symm ▸ h)

/-- A further VBlank line of `n << ds` cycles (R217, R218). -/
theorem newLine_scaled_eq (hmode : b.mode = 1) (v : Byte) (n : Nat) :
    { b.newLine v with scanlineCounter := (b.newLine v).scaled n } =
      requestIf (b.newMatch v) .stat ((b.showLine v).showPhase 1 n) := by
  have hstat : statWithMode (b.showLine v).stat 1 = (b.showLine v).stat :=
    statWithMode_self ((statWithMatch_mode _ _).trans hmode)
  rw [Block.showPhase, hstat, newLine_eq]
  cases b.newMatch v <;> rfl

theorem endOfMode1_of_le (hmode : b.mode = 1) (h : b.ly.toNat ≤ 151) :
    endOfMode1 b =
      (requestIf (b.newMatch (b.ly + 1)) .stat ((b.showLine (b.ly + 1)).showPhase 1 Config.lineCycles), []) := by
  rw [endOfMode1, if_pos h, ← newLine_scaled_eq hmode]

theorem endOfMode1_of_eq (hmode : b.mode = 1) (h : b.ly.toNat = 152) :
    endOfMode1 b =
      (requestIf (b.newMatch Config.lastLy) .stat ((b.showLine Config.lastLy).showPhase 1 Config.line153Cycles),
        []) := by
  rw [endOfMode1, if_neg (by omega), if_pos h, ← newLine_scaled_eq hmode]

theorem endOfMode1_of_last (h : 153 ≤ b.ly.toNat) :
    endOfMode1 b =
      (requestIf (b.newMatch 0 || b.intMode2) .stat ((b.showLine 0).showPhase 2 Config.mode2Cycles), []) := by
  rw [endOfMode1, if_neg (by omega), if_neg (by omega), enterMode2_newLine]

/-! ### One LCD step, case by case (R210 to R212) -/

theorem lcdStep_counting (hon : b.lcdOn = true) (h : 2 ≤ b.scanlineCounter) :
    lcdStep b = ({ b with scanlineCounter := b.scanlineCounter - 1 }, []) := by
  rw [lcdStep, if_pos hon, if_neg (by omega)]

theorem lcdStep_off_counting (hoff : b.lcdOn = false) (h : 2 ≤ b.offCounter) :
    lcdStep b = ({ b with offCounter := b.offCounter - 1 }, []) := by
  rw [lcdStep, if_neg (by simp [hoff]), offStep, if_neg (by omega)]

theorem lcdStep_off_last (hoff : b.lcdOn = false) (h : b.offCounter ≤ 1) :
    lcdStep b = ({ b with offCounter := b.scaled Config.frameCycles, cyclesSinceVblank := 0 }, [.retVblank]) := by
  rw [lcdStep, if_neg (by simp [hoff]), offStep, if_pos (by omega)]

/-- The last cycle of a phase is the transition its mode selects. -/
theorem lcdStep_last (hon : b.lcdOn = true) (h : b.scanlineCounter ≤ 1) :
    lcdStep b = transition { b with scanlineCounter := 0 } := by
  rw [lcdStep, if_pos hon, if_pos (by omega)]

theorem transition_of_mode0 (h : b.mode = 0) : transition b = endOfMode0 b := by rw [transition, h]; rfl
theorem transition_of_mode1 (h : b.mode = 1) : transition b = endOfMode1 b := by rw [transition, h]; rfl
theorem transition_of_mode2 (h : b.mode = 2) : transition b = mode2To3 b := by rw [transition, h]; rfl
theorem transition_of_mode3 (h : b.mode = 3) : transition b = mode3To0 b := by rw [transition, h]; rfl

theorem lcdStep_mode2_last (hon : b.lcdOn = true) (h : b.scanlineCounter ≤ 1) (hmode : b.mode = 2) :
    lcdStep b = (b.showPhase 3 Config.mode3Cycles, [.hookScanlineStart]) :=
  (lcdStep_last hon h).trans (transition_of_mode2 hmode)

theorem lcdStep_mode3_last (hon : b.lcdOn = true) (h : b.scanlineCounter ≤ 1) (hmode : b.mode = 3) :
    lcdStep b =
      (requestIf b.intMode0 .stat (b.showPhase 0 Config.mode0Cycles), [.hookScanlineEnd, .hdmaHblank]) :=
  (lcdStep_last hon h).trans (Eq.trans (transition_of_mode3 hmode) (mode3To0_eq _))

theorem lcdStep_mode0_vblank (hon : b.lcdOn = true) (h : b.scanlineCounter ≤ 1) (hmode : b.mode = 0)
    (hly : b.ly + 1 = Config.vblankLy) : lcdStep b = (b.startVblank, [.retVblank]) :=
  (lcdStep_last hon h).trans (Eq.trans (transition_of_mode0 hmode) (endOfMode0_of_vblank hly))

theorem lcdStep_mode0_drawn (hon : b.lcdOn = true) (h : b.scanlineCounter ≤ 1) (hmode : b.mode = 0)
    (hly : b.ly + 1 ≠ Config.vblankLy) :
    lcdStep b =
      (requestIf (b.newMatch (b.ly + 1) || b.intMode2) .stat ((b.showLine (b.ly + 1)).showPhase 2 Config.mode2Cycles),
        []) :=
  (lcdStep_last hon h).trans (Eq.trans (transition_of_mode0 hmode) (endOfMode0_of_drawn hly))

theorem lcdStep_mode1_of_le (hon : b.lcdOn = true) (h : b.scanlineCounter ≤ 1) (hmode : b.mode = 1)
    (hly : b.ly.toNat ≤ 151) :
    lcdStep b =
      (requestIf (b.newMatch (b.ly + 1)) .stat ((b.showLine (b.ly + 1)).showPhase 1 Config.lineCycles), []) :=
  (lcdStep_last hon h).trans (Eq.trans (transition_of_mode1 hmode) (endOfMode1_of_le hmode hly))

theorem lcdStep_mode1_of_eq (hon : b.lcdOn = true) (h : b.scanlineCounter ≤ 1) (hmode : b.mode = 1)
    (hly : b.ly.toNat = 152) :
    lcdStep b =
      (requestIf (b.newMatch Config.lastLy) .stat ((b.showLine Config.lastLy).showPhase 1 Config.line153Cycles), []) :=
  (lcdStep_last hon h).trans (Eq.trans (transition_of_mode1 hmode) (endOfMode1_of_eq hmode hly))

theorem lcdStep_mode1_of_last (hon : b.lcdOn = true) (h : b.scanlineCounter ≤ 1) (hmode : b.mode = 1)
    (hly : 153 ≤ b.ly.toNat) :
    lcdStep b =
      (requestIf (b.newMatch 0 || b.intMode2) .stat ((b.showLine 0).showPhase 2 Config.mode2Cycles), []) :=
  (lcdStep_last hon h).trans (Eq.trans (transition_of_mode1 hmode) (endOfMode1_of_last hly))

/-! ### The spec's lengths and bytes -/

/-- A length under the speed of the moment is the length, doubled at double speed (R221). -/
theorem scaled_eq (b : Block) (n : Nat) : b.scaled n = n * (if b.ds then 2 else 1) := by
  rw [Block.scaled, Nat.shiftLeft_eq]
  cases b.ds <;> rfl

/-- A new line and a new phase, field by field. -/
theorem showLine_showPhase_eq (b : Block) (v : Byte) (m : BitVec 2) (n : Nat) :
    (b.showLine v).showPhase m n = { b with
      ly := v
      stat := (b.stat &&& 0xF8) ||| (if decide (v = b.lyc) then 0x04 else 0x00) ||| m.zeroExtend 8
      scanlineCounter := n * (if b.ds then 2 else 1) } := by
  rw [← statWithMode_statWithMatch, ← scaled_eq]
  rfl

end Sys2Proof.Machine
end

section
/-! The writes of STAT, LY, LYC and LCDC, and one LCD step, field by field (spec/42_lcd_timing.md R202 to R222). -/

namespace Sys2Proof.Machine

variable {s : State} {v : Byte}

/-- A bus write of STAT keeps the bits below 3 and takes the others from the byte (R204). -/
theorem statWritten_bit (st v : Byte) {i : Nat} (hi : i < 8) :
    (statWritten st v).getLsbD i = if i < 3 then st.getLsbD i else v.getLsbD i := by
  interval_cases i <;> simp [statWritten]

/-- Settles O17: WR_STAT stores `statWritten`, WR_LY nothing. -/
theorem statAndLyWritesKeepTheLiveStatus : Obligations.StatAndLyWritesKeepTheLiveStatus :=
  fun s v => ⟨⟨statWritten s.blk.stat v, rfl, fun _ hi => statWritten_bit _ _ hi⟩, rfl⟩

/-- Settles O18: WR_LYC is `lyc_check()` under the new LYC. -/
theorem lycWriteStoresAndChecksTheMatch : Obligations.LycWriteStoresAndChecksTheMatch := by
  intro s v
  have hcheck := lycCheck_eq { s.blk with lyc := v }
  rw [requestIf_stat_eq, Block.showLine, statWithMatch_eq] at hcheck
  exact congrArg (done s) hcheck

theorem execWrLcdc_of_same (h : lcdOnBit v = s.blk.lcdOn) : execWrLcdc v s = done s { s.blk with lcdc := v } := by
  rw [execWrLcdc, h]
  cases s.blk.lcdOn <;> rfl

theorem execWrLcdc_of_off (hon : s.blk.lcdOn = true) (h : lcdOnBit v = false) :
    execWrLcdc v s = done s (turnOff { s.blk with lcdc := v }) := by
  rw [execWrLcdc, h, hon]
  rfl

theorem execWrLcdc_of_on (hoff : s.blk.lcdOn = false) (h : lcdOnBit v = true) :
    execWrLcdc v s = done s (enterMode2 { s.blk with lcdc := v }) := by
  rw [execWrLcdc, h, hoff]
  rfl

/-- The aggregate with the LCD turned off, but for the request: line 0, Mode 0, a full LCD-off period (R202). -/
def Block.showOff (b : Block) : Block :=
  { b with
    ly := 0
    stat := (b.stat &&& 0xF8) ||| (if decide (0 = b.lyc) then 0x04 else 0x00)
    offCounter := b.scaled Config.frameCycles }

/-- Turning the LCD off as a request (R202). -/
theorem turnOff_eq (b : Block) : turnOff b = requestIf (b.newMatch 0) .stat b.showOff := by
  have hmatch : ({ b with ly := 0 }.withMode 0).newMatch 0 = b.newMatch 0 := by
    rw [Block.newMatch, withMode_lycMatch, Block.intLyc, Block.withMode, statWithMode_bit (by decide) (by decide)]
    rfl
  have hshow : { ({ b with ly := 0 }.withMode 0).showLine 0 with offCounter := b.scaled Config.frameCycles } =
      b.showOff := by
    have hstat : statWithMatch (statWithMode b.stat 0) (decide (0 = b.lyc)) =
        (b.stat &&& 0xF8) ||| (if decide (0 = b.lyc) then 0x04 else 0x00) := by
      rw [statWithMatch_statWithMode, statWithMode_statWithMatch]
      exact BitVec.or_zero
    rw [Block.showOff, ← hstat]
    rfl
  have hcheck : lycCheck ({ b with ly := 0 }.withMode 0) =
      requestIf (b.newMatch 0) .stat (({ b with ly := 0 }.withMode 0).showLine 0) := hmatch ▸ lycCheck_eq _
  rw [turnOff, hcheck, ← hshow]
  cases b.newMatch 0 <;> rfl

/-- Settles O19: the three cases of WR_LCDC, each with its request field by field. -/
theorem lcdcWriteSwitchesTheLcd : Obligations.LcdcWriteSwitchesTheLcd := by
  intro s v
  refine ⟨fun hsame => execWrLcdc_of_same hsame, fun hon hv => ?off, fun hoff hv => ?on⟩
  case off =>
    refine (execWrLcdc_of_off hon hv).trans (congrArg (done s) ?_)
    rw [turnOff_eq, requestIf_stat_eq, Block.showOff, scaled_eq]
    simp only [Block.newMatch, eq_comm (a := (0 : Byte))]
    rfl
  case on =>
    refine (execWrLcdc_of_on hoff hv).trans (congrArg (done s) ?_)
    rw [enterMode2_eq, requestIf_stat_eq, Block.showPhase, scaled_eq]
    rfl

/-! ### `lcd_step()`, field by field (R210 to R219) -/

/-- Settles O20: the two counters while they run, the end of an LCD-off period, and the ends of Modes 2 and 3, each
field by field. -/
theorem lcdCountersCountDownAndDrawingModesFollow : Obligations.LcdCountersCountDownAndDrawingModesFollow := by
  intro b
  refine ⟨lcdStep_counting, lcdStep_off_counting, fun hoff h => ?_, fun hon h hmode => ?_, fun hon h hmode => ?_⟩
  · rw [lcdStep_off_last hoff h.le, scaled_eq]
    rfl
  · have hstat : statWithMode b.stat 3 = b.stat ||| 0x03 := by
      ext i hi
      interval_cases i <;> simp [statWithMode]
    rw [lcdStep_mode2_last hon h.le hmode, Block.showPhase, hstat, scaled_eq]
    rfl
  · have hstat : statWithMode b.stat 0 = b.stat &&& 0xFC := BitVec.or_zero
    rw [lcdStep_mode3_last hon h.le hmode, requestIf_stat_eq, Block.showPhase, hstat, scaled_eq]
    rfl

/-- Settles O21: line 144 begins VBlank, whose requests are one request; any other line enters Mode 2. -/
theorem endOfModeZeroAdvancesTheLine : Obligations.EndOfModeZeroAdvancesTheLine := by
  intro b hon h hmode
  simp only
  split
  case isTrue hly =>
    rw [lcdStep_mode0_vblank hon h.le hmode hly, Block.startVblank, Block.raise, showLine_showPhase_eq,
      pendingOf_eq_decide, hly]
    rfl
  case isFalse hly =>
    rw [lcdStep_mode0_drawn hon h.le hmode hly, requestIf_stat_eq, showLine_showPhase_eq]
    rfl

/-- Settles O22: line 153 enters Mode 2 of line 0; line 152 and the lines before it begin a further VBlank line. -/
theorem vBlankLinesFollowAndWrap : Obligations.VBlankLinesFollowAndWrap := by
  intro b hon h hmode hly
  by_cases h153 : b.ly = 153
  · rw [lcdStep_mode1_of_last hon h.le hmode (congrArg BitVec.toNat h153).ge, requestIf_stat_eq, showLine_showPhase_eq]
    simp only [h153]
    rfl
  have hne : b.ly.toNat ≠ 153 := fun heq => h153 (BitVec.eq_of_toNat_eq heq)
  simp only [h153, decide_false, Bool.false_eq_true, if_false, Bool.false_and, Bool.or_false]
  by_cases h152 : b.ly = 152
  · have hnext : b.ly + 1 = Config.lastLy := by rw [h152]; rfl
    rw [lcdStep_mode1_of_eq hon h.le hmode (congrArg BitVec.toNat h152), requestIf_stat_eq, showLine_showPhase_eq,
      if_pos h152, hnext]
    rfl
  · have hne' : b.ly.toNat ≠ 152 := fun heq => h152 (BitVec.eq_of_toNat_eq heq)
    rw [lcdStep_mode1_of_le hon h.le hmode (by omega), requestIf_stat_eq, showLine_showPhase_eq, if_neg h152]
    rfl

end Sys2Proof.Machine
end

section
/-! The STAT request of one cycle (spec/42_lcd_timing.md R220, R222, R224): with no mode enabled, only a new line can
request STAT, and it does so exactly on a new enabled match. -/

namespace Sys2Proof.Machine

variable {cfg : Cfg} {b : Block}

/-- `IF[1]`, the STAT request (R255). -/
def Block.statRequest (b : Block) : Bool := b.ifr.getLsbD 1

theorem requestIf_stat_statRequest (p : Bool) (b : Block) :
    (requestIf p .stat b).statRequest = (b.statRequest || p) := by
  cases p with
  | false => exact (Bool.or_false _).symm
  | true => rw [Block.statRequest, requestIf_ifr, if_pos rfl, BitVec.getLsbD_or]; rfl

theorem startVblank_statRequest (b : Block) :
    b.startVblank.statRequest = (b.statRequest || (b.newMatch Config.vblankLy || b.intMode1)) := by
  rw [Block.statRequest, Block.startVblank, Block.raise, BitVec.getLsbD_or]
  cases b.newMatch Config.vblankLy || b.intMode1 <;> rfl

/-- The timer requests its own interrupt only (R172). -/
theorem timerSync_statRequest (hlatch : b.lastTimerCycle ≤ b.cycle) :
    (timerSync cfg b).statRequest = b.statRequest := by
  cases hen : tacEnable b.tac with
  | false => rw [timerSync_of_disabled hen]; rfl
  | true =>
    rw [Block.statRequest, timerSync_ifr hen hlatch]
    split
    · rfl
    · rw [BitVec.getLsbD_or]
      exact Bool.or_false _

theorem mode_cases (m : BitVec 2) : m = 0 ∨ m = 1 ∨ m = 2 ∨ m = 3 := by
  revert m
  decide

/-- With no mode enabled, an LCD step keeps LY and the STAT request, or starts a line and requests STAT exactly on a
new enabled match (R220, R224). -/
theorem lcdStep_statRequest (h0 : b.intMode0 = false) (h1 : b.intMode1 = false) (h2 : b.intMode2 = false) :
    ((lcdStep b).1.ly = b.ly ∧ (lcdStep b).1.statRequest = b.statRequest) ∨
      (lcdStep b).1.statRequest = (b.statRequest || b.newMatch (lcdStep b).1.ly) := by
  have hline (v : Byte) (m : BitVec 2) (n : Nat) :
      (requestIf (b.newMatch v) .stat ((b.showLine v).showPhase m n)).statRequest =
        (b.statRequest || b.newMatch (requestIf (b.newMatch v) .stat ((b.showLine v).showPhase m n)).ly) := by
    rw [requestIf_stat_statRequest, requestIf_ly]
    rfl
  cases hon : b.lcdOn with
  | false =>
    by_cases hcount : 2 ≤ b.offCounter
    · rw [lcdStep_off_counting hon hcount]; exact .inl ⟨rfl, rfl⟩
    · rw [lcdStep_off_last hon (by omega)]; exact .inl ⟨rfl, rfl⟩
  | true =>
    by_cases hcount : 2 ≤ b.scanlineCounter
    · rw [lcdStep_counting hon hcount]; exact .inl ⟨rfl, rfl⟩
    have hlast : b.scanlineCounter ≤ 1 := by omega
    rcases mode_cases b.mode with hmode | hmode | hmode | hmode
    · by_cases hly : b.ly + 1 = Config.vblankLy
      · rw [lcdStep_mode0_vblank hon hlast hmode hly, startVblank_statRequest, h1, Bool.or_false]
        exact .inr rfl
      · rw [lcdStep_mode0_drawn hon hlast hmode hly, h2, Bool.or_false]
        exact .inr (hline _ _ _)
    · have hly : b.ly.toNat ≤ 151 ∨ b.ly.toNat = 152 ∨ 153 ≤ b.ly.toNat := by omega
      rcases hly with hly | hly | hly
      · rw [lcdStep_mode1_of_le hon hlast hmode hly]
        exact .inr (hline _ _ _)
      · rw [lcdStep_mode1_of_eq hon hlast hmode hly]
        exact .inr (hline _ _ _)
      · rw [lcdStep_mode1_of_last hon hlast hmode hly, h2, Bool.or_false]
        exact .inr (hline _ _ _)
    · rw [lcdStep_mode2_last hon hlast hmode]; exact .inl ⟨rfl, rfl⟩
    · rw [lcdStep_mode3_last hon hlast hmode, h0]; exact .inl ⟨rfl, rfl⟩

/-- Settles O23: by INV3 the match flag says whether LY was LYC before the cycle. -/
theorem statInterruptOnlyOnEnabledMatchTransition : Obligations.StatInterruptOnlyOnEnabledMatchTransition := by
  intro s hs h0 h1 h2 hreq t
  obtain ⟨-, hinv⟩ := (inv_iff s).mp hs
  obtain ⟨⟨hlatch, -⟩, -⟩ := hinv.clock
  obtain ⟨h3, -⟩ := hinv.display
  let c := timerSync s.cfg s.blk.countCycle
  have hstat : c.stat = s.blk.stat := timerSync_stat _ _
  have hly : c.ly = s.blk.ly := timerSync_ly _ _
  have hlyc : c.lyc = s.blk.lyc := timerSync_lyc _ _
  have hcreq : c.statRequest = false :=
    (timerSync_statRequest (b := s.blk.countCycle) (Nat.le_succ_of_le hlatch)).trans hreq
  have htlyc : t.lyc = s.blk.lyc := ((congrArg Block.lyc (lcdStep_frame c)).trans rfl).trans hlyc
  have hnew : c.newMatch t.ly = (decide (t.ly = s.blk.lyc) && !decide (s.blk.ly = s.blk.lyc) && s.blk.intLyc) := by
    rw [Block.newMatch, hlyc, Block.lycMatch, Block.intLyc, hstat, ← h3]
    rfl
  have hcases : (t.ly = c.ly ∧ t.statRequest = c.statRequest) ∨ t.statRequest = (c.statRequest || c.newMatch t.ly) :=
    lcdStep_statRequest ((congrArg (·.getLsbD 3) hstat).trans h0) ((congrArg (·.getLsbD 4) hstat).trans h1)
      ((congrArg (·.getLsbD 5) hstat).trans h2)
  rw [htlyc]
  change t.statRequest = true ↔ s.blk.intLyc = true ∧ _
  rcases hcases with ⟨hkept, hsame⟩ | hline
  · rw [hsame, hcreq, hkept, hly]
    exact ⟨fun h => absurd h Bool.false_ne_true, fun ⟨_, heq, hne⟩ => absurd heq hne⟩
  · rw [hline, hcreq, hnew]
    simp only [Bool.false_or, Bool.and_eq_true, Bool.not_eq_true', decide_eq_true_eq, decide_eq_false_iff_not, ne_eq]
    exact ⟨fun ⟨⟨heq, hne⟩, hen⟩ => ⟨hen, heq, hne⟩, fun ⟨hen, heq, hne⟩ => ⟨⟨heq, hne⟩, hen⟩⟩

end Sys2Proof.Machine
end

section
/-! A frame (spec/42_lcd_timing.md R209 to R223): each phase of a line lasts as long as it was given and ends in the
phase after it; the phases add up to a line, the lines to the drawn part and to VBlank. -/

namespace Sys2Proof.Machine

variable {cfg : Cfg} {ds : Bool} {m : BitVec 2} {v n : Nat} {b : Block}

/-- `m + n` cycles are `m` cycles and then `n` cycles, with the pulses of both (R282). -/
theorem cycles_add (cfg : Cfg) (m n : Nat) (b : Block) :
    cycles cfg (m + n) b =
      ((cycles cfg n (cycles cfg m b).1).1, (cycles cfg m b).2 ++ (cycles cfg n (cycles cfg m b).1).2) := by
  induction m generalizing b with
  | zero => rw [Nat.zero_add]; rfl
  | succ m ih => rw [Nat.succ_add, cycles, ih, cycles, List.append_assoc]

/-! ### Within a phase -/

/-- The LCD is on, at speed `ds`, in mode `m` of line `v`, with `n` cycles of the phase to go. -/
structure Block.InPhase (b : Block) (ds : Bool) (m : BitVec 2) (v n : Nat) : Prop where
  on : b.lcdOn = true
  speed : b.ds = ds
  mode : b.mode = m
  line : b.ly.toNat = v
  left : b.scanlineCounter = n

/-- The timer's part of a cycle leaves the phase as it was. -/
theorem Block.InPhase.after_timerSync (h : b.InPhase ds m v n) : (timerSync cfg b.countCycle).InPhase ds m v n where
  on := (congrArg lcdOnBit (timerSync_lcdc cfg b.countCycle)).trans h.on
  speed := (timerSync_ds cfg b.countCycle).trans h.speed
  mode := (congrArg (·.extractLsb' 0 2) (timerSync_stat cfg b.countCycle)).trans h.mode
  line := (congrArg BitVec.toNat (timerSync_ly cfg b.countCycle)).trans h.line
  left := (timerSync_scanlineCounter cfg b.countCycle).trans h.left

/-- A cycle before the last one of a phase only counts. -/
theorem Block.InPhase.after_cycleStep (h : b.InPhase ds m v (n + 1)) (hn : 1 ≤ n) :
    (cycleStep cfg b).1.InPhase ds m v n ∧ (cycleStep cfg b).2 = [] := by
  have hsync := h.after_timerSync (cfg := cfg)
  have hleft := hsync.left
  rw [cycleStep, lcdStep_counting hsync.on (by omega)]
  exact ⟨{ hsync with left := by rw [hleft, Nat.add_sub_cancel] }, rfl⟩

/-- Cycles that leave some of the phase only count. -/
theorem Block.InPhase.cycles_within {j : Nat} (h : b.InPhase ds m v (j + n)) (hn : 1 ≤ n) :
    (cycles cfg j b).1.InPhase ds m v n ∧ (cycles cfg j b).2 = [] := by
  induction j generalizing b with
  | zero => exact ⟨Nat.zero_add n ▸ h, rfl⟩
  | succ j ih =>
    obtain ⟨hone, hquiet⟩ := (Nat.succ_add j n ▸ h).after_cycleStep (cfg := cfg) (by omega)
    obtain ⟨hrest, hrestQuiet⟩ := ih hone
    exact ⟨hrest, by rw [cycles, hquiet, hrestQuiet]; rfl⟩

/-- The cycles of a phase are one LCD step on its last cycle. -/
theorem Block.InPhase.cycles_end (h : b.InPhase ds m v n) (hn : 1 ≤ n) :
    ∃ c, c.InPhase ds m v 1 ∧ cycles cfg n b = lcdStep c := by
  obtain ⟨j, rfl⟩ := Nat.exists_eq_add_of_le' hn
  obtain ⟨hlast, hquiet⟩ := h.cycles_within (cfg := cfg) le_rfl
  refine ⟨_, hlast.after_timerSync (cfg := cfg), ?_⟩
  rw [cycles_add, hquiet]
  exact congrArg (Prod.mk _) (List.append_nil _)

/-! ### The end of a phase -/

/-- A phase shown, whatever it requests, lasts `n << ds` cycles. -/
theorem inPhase_request (hon : b.lcdOn = true) (hds : b.ds = ds) (hline : b.ly.toNat = v) (p : Bool) (src : IrqSource)
    (m : BitVec 2) (n : Nat) : (requestIf p src (b.showPhase m n)).InPhase ds m v (n <<< ds.toNat) := by
  subst hds
  have hshown : (b.showPhase m n).InPhase b.ds m v (n <<< b.ds.toNat) :=
    ⟨hon, rfl, statWithMode_mode b.stat m, hline, rfl⟩
  cases p with
  | false => exact hshown
  | true => exact ⟨hshown.on, hshown.speed, hshown.mode, hshown.line, hshown.left⟩

theorem Block.InPhase.mode2_end (h : b.InPhase ds 2 v 1) :
    (lcdStep b).1.InPhase ds 3 v (172 <<< ds.toNat) ∧ (lcdStep b).2 = [.hookScanlineStart] := by
  rw [lcdStep_mode2_last h.on h.left.le h.mode]
  exact ⟨inPhase_request h.on h.speed h.line false .stat _ _, rfl⟩

theorem Block.InPhase.mode3_end (h : b.InPhase ds 3 v 1) :
    (lcdStep b).1.InPhase ds 0 v (204 <<< ds.toNat) ∧ (lcdStep b).2 = [.hookScanlineEnd, .hdmaHblank] := by
  rw [lcdStep_mode3_last h.on h.left.le h.mode]
  exact ⟨inPhase_request h.on h.speed h.line _ _ _ _, rfl⟩

theorem Block.InPhase.line_succ (h : b.InPhase ds m v n) (hv : v < 255) : (b.ly + 1).toNat = v + 1 := by
  rw [BitVec.toNat_add, h.line]
  exact Nat.mod_eq_of_lt (show v + 1 < 256 by omega)

theorem Block.InPhase.mode0_end (h : b.InPhase ds 0 v 1) (hv : v < 143) :
    (lcdStep b).1.InPhase ds 2 (v + 1) (80 <<< ds.toNat) ∧ (lcdStep b).2 = [] := by
  have hnext := h.line_succ (by omega)
  have hly : b.ly + 1 ≠ Config.vblankLy := fun heq => by
    rw [heq] at hnext
    exact absurd hnext (show 144 ≠ v + 1 by omega)
  rw [lcdStep_mode0_drawn h.on h.left.le h.mode hly]
  exact ⟨inPhase_request (b := b.showLine (b.ly + 1)) h.on h.speed hnext _ _ _ _, rfl⟩

/-- Line 143 ends in VBlank, with its request and its pulse (R216). -/
theorem Block.InPhase.mode0_end_vblank (h : b.InPhase ds 0 143 1) :
    (lcdStep b).1.InPhase ds 1 144 (456 <<< ds.toNat) ∧ (lcdStep b).2 = [.retVblank] ∧
      (lcdStep b).1.ifr.getLsbD 0 = true := by
  have hly : b.ly + 1 = Config.vblankLy := BitVec.eq_of_toNat_eq (h.line_succ (by decide))
  have hphase := inPhase_request (b := b.showLine Config.vblankLy) h.on h.speed rfl false .stat 1 Config.lineCycles
  rw [lcdStep_mode0_vblank h.on h.left.le h.mode hly]
  refine ⟨⟨hphase.on, hphase.speed, hphase.mode, hphase.line, hphase.left⟩, rfl, ?_⟩
  rw [Block.startVblank, Block.raise, BitVec.getLsbD_or, BitVec.getLsbD_or]
  exact (congrArg (_ || ·) (Bool.true_or _)).trans (Bool.or_true _)

theorem Block.InPhase.mode1_end (h : b.InPhase ds 1 v 1) (hv : v ≤ 151) :
    (lcdStep b).1.InPhase ds 1 (v + 1) (456 <<< ds.toNat) ∧ (lcdStep b).2 = [] := by
  rw [lcdStep_mode1_of_le h.on h.left.le h.mode (h.line.trans_le hv)]
  exact ⟨inPhase_request (b := b.showLine (b.ly + 1)) h.on h.speed (h.line_succ (by omega)) _ _ _ _, rfl⟩

theorem Block.InPhase.line152_end (h : b.InPhase ds 1 152 1) :
    (lcdStep b).1.InPhase ds 1 153 (912 <<< ds.toNat) ∧ (lcdStep b).2 = [] := by
  rw [lcdStep_mode1_of_eq h.on h.left.le h.mode h.line]
  exact ⟨inPhase_request (b := b.showLine Config.lastLy) h.on h.speed rfl _ _ _ _, rfl⟩

theorem Block.InPhase.line153_end (h : b.InPhase ds 1 153 1) :
    (lcdStep b).1.InPhase ds 2 0 (80 <<< ds.toNat) ∧ (lcdStep b).2 = [] := by
  rw [lcdStep_mode1_of_last h.on h.left.le h.mode h.line.ge]
  exact ⟨inPhase_request (b := b.showLine 0) h.on h.speed rfl _ _ _ _, rfl⟩

/-! ### The drawn lines -/

/-- `n` cycles end in `r`, and before the last of them no frame is complete and a drawn line is shown. -/
def Block.draws (cfg : Cfg) (b : Block) (n : Nat) (r : Block × List Pulse) : Prop :=
  cycles cfg n b = r ∧ ∀ j < n, (cycles cfg j b).2.count .retVblank = 0 ∧ (cycles cfg j b).1.ly.toNat < 144

theorem Block.draws.trans {q r : Block × List Pulse} {k : Nat} (hb : b.draws cfg k q)
    (hq : q.2.count .retVblank = 0) (hc : q.1.draws cfg n r) : b.draws cfg (k + n) (r.1, q.2 ++ r.2) := by
  obtain ⟨hend, hdrawn⟩ := hb
  obtain ⟨hend', hdrawn'⟩ := hc
  refine ⟨by rw [cycles_add, hend, hend'], fun j hj => ?_⟩
  by_cases hjk : j < k
  · exact hdrawn j hjk
  · obtain ⟨i, rfl⟩ := Nat.exists_eq_add_of_le (Nat.not_lt.mp hjk)
    obtain ⟨hcount, hly⟩ := hdrawn' i (by omega)
    rw [cycles_add, hend]
    exact ⟨by rw [List.count_append, hq, hcount], hly⟩

/-- A phase of a drawn line, and the LCD step on its last cycle. -/
theorem Block.InPhase.draws_end (h : b.InPhase ds m v n) (hn : 1 ≤ n) (hv : v < 144) :
    ∃ c, c.InPhase ds m v 1 ∧ b.draws cfg n (lcdStep c) := by
  obtain ⟨c, hc, hend⟩ := h.cycles_end (cfg := cfg) hn
  refine ⟨c, hc, hend, fun j hj => ?_⟩
  obtain ⟨i, rfl⟩ := Nat.exists_eq_add_of_lt hj
  obtain ⟨hphase, hquiet⟩ := Block.InPhase.cycles_within (cfg := cfg) (j := j) (n := i + 1) h (by omega)
  exact ⟨by rw [hquiet]; rfl, hphase.line.trans_lt hv⟩

/-- A length under either speed is at least one cycle. -/
theorem one_le_shiftLeft_toNat {n : Nat} (hn : 1 ≤ n) (ds : Bool) : 1 ≤ n <<< ds.toNat :=
  Nat.shiftLeft_eq n _ ▸ Nat.mul_pos hn (Nat.two_pow_pos _)

/-- A drawn line up to its last cycle (R214, R215): 456 << ds cycles, one pulse of each drawing hook. -/
theorem Block.InPhase.draws_line (h : b.InPhase ds 2 v (80 <<< ds.toNat)) (hv : v < 144) :
    ∃ c, c.InPhase ds 0 v 1 ∧ b.draws cfg (456 <<< ds.toNat)
      ((lcdStep c).1, [.hookScanlineStart, .hookScanlineEnd, .hdmaHblank] ++ (lcdStep c).2) := by
  obtain ⟨c2, h2, hdraw2⟩ := h.draws_end (cfg := cfg) (one_le_shiftLeft_toNat (by decide) ds) hv
  obtain ⟨h3, hpulse2⟩ := h2.mode2_end
  obtain ⟨c3, h3, hdraw3⟩ := h3.draws_end (cfg := cfg) (one_le_shiftLeft_toNat (by decide) ds) hv
  obtain ⟨h0, hpulse3⟩ := h3.mode3_end
  obtain ⟨c0, h0, hdraw0⟩ := h0.draws_end (cfg := cfg) (one_le_shiftLeft_toNat (by decide) ds) hv
  have hlength : 456 <<< ds.toNat = 80 <<< ds.toNat + (172 <<< ds.toNat + 204 <<< ds.toNat) := by
    cases ds <;> rfl
  have hdraw := hdraw2.trans (hpulse2 ▸ rfl) (hdraw3.trans (hpulse3 ▸ rfl) hdraw0)
  rw [hpulse2, hpulse3] at hdraw
  exact ⟨c0, h0, hlength ▸ hdraw⟩

/-- The pulses of `k` drawn lines: none of them completes a frame. -/
def linePulses (k : Nat) (ps : List Pulse) : Prop :=
  ps.count .retVblank = 0 ∧ ps.count .hookScanlineStart = k ∧ ps.count .hdmaHblank = k

theorem linePulses_succ {k : Nat} {ps : List Pulse} (h : linePulses k ps) :
    linePulses (k + 1) (ps ++ [.hookScanlineStart, .hookScanlineEnd, .hdmaHblank]) := by
  obtain ⟨hret, hstart, hblank⟩ := h
  refine ⟨?_, ?_, ?_⟩ <;> rw [List.count_append]
  · rw [hret]; rfl
  · rw [hstart]; rfl
  · rw [hblank]; rfl

/-- From the start of line 0 to the start of drawn line `v`. -/
theorem Block.InPhase.draws_lines (h : b.InPhase ds 2 0 (80 <<< ds.toNat)) (hv : v ≤ 143) :
    ∃ c ps, c.InPhase ds 2 v (80 <<< ds.toNat) ∧ b.draws cfg (v * 456 <<< ds.toNat) (c, ps) ∧ linePulses v ps := by
  induction v with
  | zero => exact ⟨b, [], h, ⟨by rw [Nat.zero_mul]; rfl, fun j hj => by omega⟩, rfl, rfl, rfl⟩
  | succ v ih =>
    obtain ⟨c, ps, hc, hdraw, hps⟩ := ih (by omega)
    obtain ⟨c0, h0, hline⟩ := hc.draws_line (cfg := cfg) (by omega)
    obtain ⟨hnext, hquiet⟩ := h0.mode0_end (by omega)
    rw [hquiet, List.append_nil] at hline
    exact ⟨_, _, hnext, Nat.succ_mul v _ ▸ hdraw.trans hps.1 hline, linePulses_succ hps⟩

/-- The drawn part of a frame: 144 lines, then VBlank with its request and its pulse (R216). -/
theorem Block.InPhase.draws_frame (h : b.InPhase ds 2 0 (80 <<< ds.toNat)) :
    ∃ c ps, b.draws cfg (65664 <<< ds.toNat) (c, ps ++ [.retVblank]) ∧ c.InPhase ds 1 144 (456 <<< ds.toNat) ∧
      c.ifr.getLsbD 0 = true ∧ linePulses 144 ps := by
  obtain ⟨c, ps, hc, hdraw, hps⟩ := h.draws_lines (cfg := cfg) le_rfl
  obtain ⟨c0, h0, hline⟩ := hc.draws_line (cfg := cfg) (by decide)
  obtain ⟨hvblank, hpulse, hrequest⟩ := h0.mode0_end_vblank
  have hlength : 65664 <<< ds.toNat = 143 * 456 <<< ds.toNat + 456 <<< ds.toNat := by
    cases ds <;> rfl
  rw [hpulse] at hline
  refine ⟨_, _, ?_, hvblank, hrequest, linePulses_succ hps⟩
  rw [hlength, List.append_assoc]
  exact hdraw.trans hps.1 hline

/-! ### VBlank -/

/-- The VBlank lines up to line 152 (R217). -/
theorem Block.InPhase.vblank_lines {k : Nat} (h : b.InPhase ds 1 144 (456 <<< ds.toNat)) (hk : k ≤ 8) :
    (cycles cfg (k * 456 <<< ds.toNat) b).1.InPhase ds 1 (144 + k) (456 <<< ds.toNat) ∧
      (cycles cfg (k * 456 <<< ds.toNat) b).2 = [] := by
  induction k with
  | zero => rw [Nat.zero_mul]; exact ⟨h, rfl⟩
  | succ k ih =>
    obtain ⟨hline, hquiet⟩ := ih (by omega)
    obtain ⟨c, hc, hend⟩ := hline.cycles_end (cfg := cfg) (one_le_shiftLeft_toNat (by decide) ds)
    rw [Nat.succ_mul, cycles_add, hend, hquiet]
    exact hc.mode1_end (by omega)

/-- VBlank, 5016 << ds cycles, ends at the start of line 0, without a pulse (R217 to R219). -/
theorem Block.InPhase.vblank (h : b.InPhase ds 1 144 (456 <<< ds.toNat)) :
    (cycles cfg (5016 <<< ds.toNat) b).1.InPhase ds 2 0 (80 <<< ds.toNat) ∧
      (cycles cfg (5016 <<< ds.toNat) b).2 = [] := by
  obtain ⟨h152, hquiet⟩ := h.vblank_lines (cfg := cfg) le_rfl
  obtain ⟨c, hc, hend⟩ := h152.cycles_end (cfg := cfg) (one_le_shiftLeft_toNat (by decide) ds)
  obtain ⟨h153, hquiet152⟩ := hc.line152_end
  obtain ⟨e, he, hend153⟩ := h153.cycles_end (cfg := cfg) (one_le_shiftLeft_toNat (by decide) ds)
  have hlength : 5016 <<< ds.toNat = 8 * 456 <<< ds.toNat + (456 <<< ds.toNat + 912 <<< ds.toNat) := by
    cases ds <;> rfl
  rw [hlength, cycles_add, cycles_add, hquiet, hend, hquiet152, hend153]
  exact he.line153_end

/-- Settles O24: the drawn part of a frame, then VBlank. -/
theorem oneFrameHasOneVBlank : Obligations.OneFrameHasOneVBlank := by
  intro s _ hon hmode hly hleft run ds
  have hstart : s.blk.InPhase s.blk.ds 2 0 (80 <<< s.blk.ds.toNat) :=
    ⟨hon, rfl, hmode, congrArg BitVec.toNat hly, hleft⟩
  obtain ⟨c, ps, ⟨hend, hdrawn⟩, hvblank, hrequest, hret, hlines, hblanks⟩ := hstart.draws_frame (cfg := s.cfg)
  obtain ⟨hline0, hquiet⟩ := hvblank.vblank (cfg := s.cfg)
  have hframe : run (70680 <<< ds) = ((cycles s.cfg (5016 <<< ds) c).1, ps ++ [.retVblank]) := by
    have hlength : 70680 <<< ds = 65664 <<< ds + 5016 <<< ds := by
      rw [Nat.shiftLeft_eq, Nat.shiftLeft_eq, Nat.shiftLeft_eq, ← Nat.add_mul]
    change cycles s.cfg (70680 <<< ds) s.blk = _
    rw [hlength, cycles_add, hend, hquiet, List.append_nil]
  have hvblankRun : run (65664 <<< ds) = (c, ps ++ [.retVblank]) := hend
  have hcount : (ps ++ [Pulse.retVblank]).count Pulse.retVblank = 1 := by rw [List.count_append, hret]; rfl
  rw [hframe, hvblankRun]
  refine ⟨hdrawn, ⟨BitVec.eq_of_toNat_eq hvblank.line, hvblank.mode, hrequest, hcount⟩,
    BitVec.eq_of_toNat_eq hline0.line, hline0.mode, hline0.left, hcount, ?_, ?_⟩
  · rw [List.count_append, hlines]; rfl
  · rw [List.count_append, hblanks]; rfl

end Sys2Proof.Machine
end

section
/-! The interrupt controller's operations (spec/43_interrupt_controller.md R250 to R259): the selection over IF and IE,
and what each operation writes. -/

namespace Sys2Proof.Machine

variable {b : Block}

/-! ### Sources and their bits (R255) -/

/-- The sources in priority order are the sources in order of their ids (R257). -/
theorem IrqSource.id_getElem_all : ∀ j (hj : j < IrqSource.all.length), IrqSource.all[j].id = j := by
  decide

theorem IrqSource.id_lt (src : IrqSource) : src.id < IrqSource.all.length := by
  cases src <;> decide

theorem IrqSource.getElem_all_id (src : IrqSource) : IrqSource.all[src.id]'src.id_lt = src := by
  cases src <;> rfl

theorem IrqSource.mask_getLsbD (src : IrqSource) {j : Nat} (hj : j < 8) : src.mask.getLsbD j = decide (j = src.id) := by
  cases src <;> interval_cases j <;> rfl

theorem IrqSource.ofId_of_toNat_eq {id : BitVec 3} {src : IrqSource} (h : id.toNat = src.id) :
    IrqSource.ofId id = some src := by
  rw [IrqSource.ofId, h]
  cases src <;> rfl

/-- Ids 0 to 4 name a source (R110). -/
theorem IrqSource.exists_id_eq {n : Nat} (h : n ≤ 4) : ∃ src : IrqSource, src.id = n :=
  ⟨IrqSource.all[n]'(Nat.lt_succ_of_le h), IrqSource.id_getElem_all n _⟩

/-! ### Selection (R257) -/

theorem irqSelect_eq_some_iff (b : Block) (src : IrqSource) :
    b.irqSelect = some src ↔
      (b.ifr.getLsbD src.id = true ∧ b.ie.getLsbD src.id = true) ∧
        ∀ j < src.id, ¬(b.ifr.getLsbD j = true ∧ b.ie.getLsbD j = true) := by
  simp only [Block.irqSelect, List.find?_eq_some_iff_getElem, Bool.not_eq_true', ← Bool.not_eq_true, Bool.and_eq_true,
    IrqSource.id_getElem_all]
  refine and_congr_right fun _ => ⟨?_, fun hlower => ⟨src.id, src.id_lt, src.getElem_all_id, hlower⟩⟩
  rintro ⟨i, hi, rfl, hlower⟩
  rwa [IrqSource.id_getElem_all]

theorem irqSelect_eq_none_iff (b : Block) :
    b.irqSelect = none ↔ ∀ j < 5, ¬(b.ifr.getLsbD j = true ∧ b.ie.getLsbD j = true) := by
  simp only [Block.irqSelect, List.find?_eq_none, List.forall_mem_iff_forall_getElem, Bool.and_eq_true, IrqSource.id_getElem_all]
  rfl

/-- Settles O27: the search meets the sources in order of their ids, so it stops at the lowest pending one. -/
theorem selectionIsTheLowestPendingSource : Obligations.SelectionIsTheLowestPendingSource :=
  fun b => ⟨fun src => (irqSelect_eq_some_iff b src).trans and_assoc, irqSelect_eq_none_iff b, rfl, rfl⟩

/-! ### The break test and the writes of IF and IE (R251, R253, R254) -/

theorem testBreak_eq (b : Block) : b.testBreak = { b with brk := b.brk || decide (b.ifr &&& b.ie ≠ 0) } := by
  rw [Block.testBreak, Block.irqPending, pendingOf_eq_decide]

/-- Settles O25: both writes end with the break test of the new byte. -/
theorem ifAndIeWritesReplaceAndTestBreak : Obligations.IfAndIeWritesReplaceAndTestBreak :=
  fun s v => ⟨congrArg (done s) (testBreak_eq { s.blk with ifr := v }),
    congrArg (done s) (testBreak_eq { s.blk with ie := v })⟩

/-- Settles O26: ids up to 4 name a source, whose request ends with the break test, and the others are reserved. -/
theorem irqRequestSetsItsBitAndTestsBreak : Obligations.IrqRequestSetsItsBitAndTestsBreak := by
  refine fun s id => ⟨fun hid => ?_, execIrqReq_of_reserved⟩
  obtain ⟨src, hsrc⟩ := IrqSource.exists_id_eq hid
  have hexec : exec (.irqReq id) s = done s (requestInterrupt src s.blk) := by
    simp only [exec, execIrqReq, IrqSource.ofId_of_toNat_eq hsrc.symm]
  rw [hexec, ← hsrc]
  exact congrArg (done s) (testBreak_eq { s.blk with ifr := s.blk.ifr ||| src.mask })

/-! ### Acknowledging (R258) -/

theorem acknowledge_of_some {src : IrqSource} (h : b.irqSelect = some src) :
    acknowledge b = { b with ifr := b.ifr &&& ~~~src.mask } := by
  simp only [acknowledge, h]

theorem acknowledge_of_none (h : b.irqSelect = none) : acknowledge b = b := by
  simp only [acknowledge, h]

/-- Clearing a source's bit of IF clears that bit only. -/
theorem clearMask_getLsbD (f : Byte) (src : IrqSource) {j : Nat} (hj : j < 8) :
    (f &&& ~~~src.mask).getLsbD j = (f.getLsbD j && decide (j ≠ src.id)) := by
  rw [BitVec.getLsbD_and, BitVec.getLsbD_not, src.mask_getLsbD hj, decide_eq_true hj, Bool.true_and, decide_not]

/-- Settles O28: IRQ_ACK by whether a source is selected, BRK_CLR at once. -/
theorem irqAckAndBreakClearChangeOnlyTheirBit : Obligations.IrqAckAndBreakClearChangeOnlyTheirBit := by
  refine fun s => ⟨fun src hsel => ⟨s.blk.ifr &&& ~~~src.mask, ?selected, fun _ => clearMask_getLsbD _ src⟩,
    fun hsel => ?nothing, rfl⟩
  case selected =>
    simp only [exec, execIrqAck, acknowledge_of_some hsel, hsel]
    rfl
  case nothing =>
    simp only [exec, execIrqAck, acknowledge_of_none hsel, hsel]
    rfl

end Sys2Proof.Machine
end

section
/-! Who changes IF, IE and `brk` (spec/43_interrupt_controller.md R260 to R262; spec/41_timer.md R189;
spec/42_lcd_timing.md R225): every operation that is not the interrupt controller's own, RESET or LOAD_STATE leaves them
as they were or makes requests. -/

namespace Sys2Proof.Machine

variable {s t : State} {b c d : Block}

/-! ### Requests and nothing else -/

/-- The interrupt registers. -/
def Block.irqPart (b : Block) : Byte × Byte × Bool := (b.ifr, b.ie, b.brk)

/-- The interrupt registers of `c` are those of `b`, or those of `b` after a request of some of the sources 0 to 4. -/
def Block.onlyRequests (b c : Block) : Prop :=
  c.irqPart = b.irqPart ∨ ∃ k : Byte, k &&& 0xE0 = 0 ∧ c.irqPart = (b.raise k).irqPart

theorem raise_irqPart_congr (h : c.irqPart = b.irqPart) (k : Byte) : (c.raise k).irqPart = (b.raise k).irqPart := by
  simp only [Block.irqPart, Prod.mk.injEq] at h
  obtain ⟨hifr, hie, hbrk⟩ := h
  simp only [Block.raise, Block.irqPart, hifr, hie, hbrk]

theorem Block.onlyRequests.trans (hbc : b.onlyRequests c) (hcd : c.onlyRequests d) : b.onlyRequests d := by
  rcases hcd with hcd | ⟨k, hk, hcd⟩
  · rwa [Block.onlyRequests, hcd]
  · rcases hbc with hbc | ⟨j, hj, hbc⟩
    · exact .inr ⟨k, hk, hcd.trans (raise_irqPart_congr hbc k)⟩
    · refine .inr ⟨j ||| k, ?_, (hcd.trans (raise_irqPart_congr hbc k)).trans (by rw [raise_raise])⟩
      rw [BitVec.and_or_distrib_right, hj, hk]
      rfl

theorem requestInterrupt_onlyRequests (src : IrqSource) (b : Block) : b.onlyRequests (requestInterrupt src b) :=
  .inr ⟨src.mask, by cases src <;> rfl, rfl⟩

/-- A conditional request after a write of other registers. -/
theorem requestIf_onlyRequests {p : Bool} {src : IrqSource} (h : c.irqPart = b.irqPart) :
    b.onlyRequests (requestIf p src c) := by
  cases p with
  | false => exact .inl h
  | true => exact Block.onlyRequests.trans (.inl h) (requestInterrupt_onlyRequests src c)

/-! ### The shared operations -/

/-- The timer at most requests its own interrupt (R189). -/
theorem timerSync_onlyRequests (cfg : Cfg) (b : Block) : b.onlyRequests (timerSync cfg b) := by
  unfold timerSync
  split
  · rw [reloadLoop_eq le_rfl]
    exact requestIf_onlyRequests (src := .timer) (c := { b with lastTimerCycle := _ }) rfl
  · exact .inl rfl

theorem lycCheck_onlyRequests (b : Block) : b.onlyRequests (lycCheck b) :=
  lycCheck_eq b ▸ requestIf_onlyRequests rfl

theorem enterMode2_onlyRequests (b : Block) : b.onlyRequests (enterMode2 b) :=
  enterMode2_eq b ▸ requestIf_onlyRequests rfl

theorem turnOff_onlyRequests (b : Block) : b.onlyRequests (turnOff b) := lycCheck_onlyRequests _

theorem endOfMode0_onlyRequests (b : Block) : b.onlyRequests (endOfMode0 b).1 := by
  by_cases hly : b.ly + 1 = Config.vblankLy
  · rw [endOfMode0_of_vblank hly]
    refine .inr ⟨0x01 ||| if b.newMatch Config.vblankLy || b.intMode1 then 0x02 else 0x00, ?_, rfl⟩
    cases b.newMatch Config.vblankLy || b.intMode1 <;> rfl
  · rw [endOfMode0_of_drawn hly]
    exact requestIf_onlyRequests rfl

theorem endOfMode1_onlyRequests (b : Block) : b.onlyRequests (endOfMode1 b).1 := by
  have hline (v : Byte) : b.onlyRequests (b.newLine v) := lycCheck_onlyRequests { b with ly := v }
  unfold endOfMode1
  split
  · exact hline _
  · split
    · exact hline _
    · exact (hline _).trans (enterMode2_onlyRequests _)

/-- The display at most requests VBlank and STAT (R225). -/
theorem lcdStep_onlyRequests (b : Block) : b.onlyRequests (lcdStep b).1 := by
  unfold lcdStep
  split
  · split
    · unfold transition
      split
      · exact .inl rfl
      · rw [mode3To0_eq]
        exact requestIf_onlyRequests rfl
      · exact endOfMode0_onlyRequests { b with scanlineCounter := 0 }
      · exact endOfMode1_onlyRequests { b with scanlineCounter := 0 }
    · exact .inl rfl
  · unfold offStep
    split <;> exact .inl rfl

theorem cycles_onlyRequests (cfg : Cfg) (n : Nat) (b : Block) : b.onlyRequests (cycles cfg n b).1 := by
  induction n generalizing b with
  | zero => exact .inl rfl
  | succ n ih =>
    have htimer : b.onlyRequests (timerSync cfg b.countCycle) := timerSync_onlyRequests cfg b.countCycle
    exact (htimer.trans (lcdStep_onlyRequests _)).trans (ih _)

theorem writeByte_irqPart (b : Block) (st : Store) (i : Nat) (v : Byte) : (b.writeByte st i v).irqPart = b.irqPart :=
  (congrArg Block.irqPart (writeByte_frame b st i v)).trans rfl

theorem tableWrite_irqPart (b : Block) (a : Addr) (v : Byte) : (tableWrite b a v).irqPart = b.irqPart := by
  rcases tableWrite_cases b a v with ⟨st, i, -, hwrite⟩ | ⟨-, hwrite⟩
  · rw [hwrite, writeByte_irqPart]
  · rw [hwrite]

theorem cellWrite_irqPart (b : Block) (cell : Option (Store × Nat)) (v : Byte) :
    (cellWrite b cell v).irqPart = b.irqPart := by
  cases cell with
  | none => rfl
  | some cell => exact writeByte_irqPart b cell.1 cell.2 v

/-! ### The operations -/

theorem onlyRequests_of_done {r : Reply} {ps : List Pulse} (h : done s c r ps = .next t)
    (hc : s.blk.onlyRequests c) : s.blk.onlyRequests t.blk := by
  rw [done_eq_next] at h
  exact h ▸ hc

/-- The operations that do more to the interrupt registers than request (R251, R253, R258, R259, R350, R353). -/
def ownsIrqPart : Instr → Bool
  | .wrIf _ | .wrIe _ | .irqAck | .brkClr | .reset | .loadState _ => true
  | _ => false

/-- Every other operation at most requests (R260 to R262). -/
theorem exec_onlyRequests {i : Instr} (hi : ownsIrqPart i = false) (h : exec i s = .next t) :
    s.blk.onlyRequests t.blk := by
  cases i with
  | wrIf _ | wrIe _ | irqAck | brkClr | reset | loadState _ => exact absurd hi (by simp [ownsIrqPart])
  | rdXram _ => exact onlyRequests_of_done (execRdXram_next h) (.inl rfl)
  | rdIo _ => exact .inl (congrArg Block.irqPart (execRdIo_next h).2.1)
  | irqReq _ =>
    obtain ⟨src, h⟩ := execIrqReq_next h
    exact onlyRequests_of_done h (requestInterrupt_onlyRequests src s.blk)
  -- the timer and the clock
  | rdTima | wrTima _ | wrTma _ | wrTac _ => exact onlyRequests_of_done h (timerSync_onlyRequests s.cfg s.blk)
  | speedSwitch => exact onlyRequests_of_done (execSpeedSwitch_next h) (timerSync_onlyRequests s.cfg s.blk)
  | tick n => exact onlyRequests_of_done h (cycles_onlyRequests s.cfg n s.blk)
  -- the display
  | wrLcdc v =>
    rcases execWrLcdc_next h with ⟨-, h⟩ | ⟨-, -, h⟩ | ⟨-, h⟩
    · exact onlyRequests_of_done h (turnOff_onlyRequests { s.blk with lcdc := v })
    · exact onlyRequests_of_done h (enterMode2_onlyRequests { s.blk with lcdc := v })
    · exact onlyRequests_of_done h (.inl rfl)
  | wrLyc v => exact onlyRequests_of_done h (lycCheck_onlyRequests { s.blk with lyc := v })
  -- the memories
  | wrVram a v | wrWram0 a v | wrWramx a v | wrEcho0 a v =>
    exact onlyRequests_of_done h (.inl (tableWrite_irqPart s.blk a v))
  | wrXram a v => exact onlyRequests_of_done (execWrXram_next h) (.inl (tableWrite_irqPart s.blk a v))
  | wrEcho1 _ v => exact onlyRequests_of_done h (.inl (cellWrite_irqPart s.blk _ v))
  | wrHram _ v | wrOam _ v => exact onlyRequests_of_done h (.inl (writeByte_irqPart s.blk _ _ v))
  | wrIo _ v =>
    rcases execWrIo_next h with h | h
    · exact onlyRequests_of_done h (.inl rfl)
    · exact onlyRequests_of_done h (.inl (writeByte_irqPart s.blk _ _ v))
  -- the banks
  | wrVbk _ =>
    obtain ⟨bank, -, h⟩ := execWrVbk_next h
    exact onlyRequests_of_done h (.inl rfl)
  | wrSvbk _ =>
    obtain ⟨bank, -, h⟩ := execWrSvbk_next h
    exact onlyRequests_of_done h (.inl rfl)
  | mbcRombank _ => exact onlyRequests_of_done (execMbcRombank_next h).2 (.inl rfl)
  | mbcRambank _ => exact onlyRequests_of_done (execMbcRambank_next h).2 (.inl rfl)
  | wrBootoff _ => exact .inl ((congrArg Block.irqPart (execWrBootoff_next h).2.1).trans rfl)
  | _ => exact onlyRequests_of_done h (.inl rfl)

/-! ### IF and IE (R260, R261) -/

theorem Block.onlyRequests.ie_eq (h : b.onlyRequests c) : c.ie = b.ie := by
  rcases h with h | ⟨k, -, h⟩
  · exact congrArg (·.2.1) h
  · exact congrArg (·.2.1) h

/-- Requests are sticky: they OR bits of 4:0 into IF (R261). -/
theorem Block.onlyRequests.ifr_eq (h : b.onlyRequests c) : ∃ k : Byte, k &&& 0xE0 = 0 ∧ c.ifr = b.ifr ||| k := by
  rcases h with h | ⟨k, hk, h⟩
  · exact ⟨0, rfl, (congrArg Prod.fst h).trans BitVec.or_zero.symm⟩
  · exact ⟨k, hk, congrArg Prod.fst h⟩

/-- A byte with bits 7:5 clear has no bit above 4. -/
theorem getLsbD_of_and_eq_zero {k : Byte} (hk : k &&& 0xE0 = 0) {j : Nat} (hj : 5 ≤ j) : k.getLsbD j = false := by
  by_cases h8 : j < 8
  · have hbit := congrArg (·.getLsbD j) hk
    interval_cases j <;> simpa using hbit
  · exact BitVec.getLsbD_of_ge k j (by omega)

/-- Requests take no bit off IF and add none above 4. -/
theorem Block.onlyRequests.ifr_getLsbD (h : b.onlyRequests c) :
    (∀ j, b.ifr.getLsbD j = true → c.ifr.getLsbD j = true) ∧
      ∀ j, 5 ≤ j → c.ifr.getLsbD j = true → b.ifr.getLsbD j = true := by
  obtain ⟨k, hk, hifr⟩ := h.ifr_eq
  simp only [hifr, BitVec.getLsbD_or]
  refine ⟨fun j hj => by rw [hj, Bool.true_or], fun j hj hbit => ?_⟩
  rwa [getLsbD_of_and_eq_zero hk hj, Bool.or_false] at hbit

/-- IRQ_ACK adds no bit to IF (R258). -/
theorem acknowledge_ifr_getLsbD {j : Nat} (h : (acknowledge b).ifr.getLsbD j = true) : b.ifr.getLsbD j = true := by
  cases hsel : b.irqSelect with
  | none => rwa [acknowledge_of_none hsel] at h
  | some src =>
    rw [acknowledge_of_some hsel, BitVec.getLsbD_and, Bool.and_eq_true] at h
    exact h.1

/-- Settles O29: the interrupt controller's own operations one by one, and every other one at most requests. -/
theorem interruptRegistersChangeOnlyByTheirOwnOperations :
    Obligations.InterruptRegistersChangeOnlyByTheirOwnOperations := by
  intro i s t h
  cases i with
  | wrIf v =>
    cases h
    exact ⟨.inl rfl, .inr (.inr (.inl ⟨v, rfl⟩)), .inr (.inl ⟨v, rfl⟩)⟩
  | wrIe v =>
    cases h
    exact ⟨.inr (.inl ⟨v, rfl⟩), .inl fun _ => id, .inl fun _ _ => id⟩
  | irqAck =>
    cases h
    exact ⟨.inl ((congrArg Block.ie (acknowledge_frame s.blk)).trans rfl), .inr (.inl rfl),
      .inl fun _ _ => acknowledge_ifr_getLsbD⟩
  | brkClr =>
    cases h
    exact ⟨.inl rfl, .inl fun _ => id, .inl fun _ _ => id⟩
  | reset => exact ⟨.inr (.inr (.inl rfl)), .inr (.inr (.inr (.inl rfl))), .inr (.inr (.inl rfl))⟩
  | loadState snap =>
    exact ⟨.inr (.inr (.inr ⟨snap, rfl⟩)), .inr (.inr (.inr (.inr ⟨snap, rfl⟩))), .inr (.inr (.inr ⟨snap, rfl⟩))⟩
  | _ =>
    have hreq := exec_onlyRequests rfl h
    obtain ⟨hkept, hhigh⟩ := hreq.ifr_getLsbD
    exact ⟨.inl hreq.ie_eq, .inl hkept, .inl hhigh⟩

/-! ### The break flag (R262) -/

/-- `brk` is as it was, or set with an interrupt pending. -/
def Block.breakTested (b c : Block) : Prop := c.brk = b.brk ∨ c.brk = true ∧ c.irqPending = true

theorem testBreak_breakTested (b : Block) : b.breakTested b.testBreak := by
  cases hpend : b.irqPending with
  | false => exact .inl ((congrArg (b.brk || ·) hpend).trans (Bool.or_false _))
  | true => exact .inr ⟨(congrArg (b.brk || ·) hpend).trans (Bool.or_true _), hpend⟩

theorem breakTested_congr (hb : b.breakTested c) (h : d.irqPart = c.irqPart) : b.breakTested d := by
  simp only [Block.irqPart, Prod.mk.injEq] at h
  obtain ⟨hifr, hie, hbrk⟩ := h
  rwa [Block.breakTested, hbrk, Block.irqPending, hifr, hie]

/-- A request ends with the break test (R254). -/
theorem Block.onlyRequests.breakTested (h : b.onlyRequests c) : b.breakTested c := by
  rcases h with h | ⟨k, -, h⟩
  · exact breakTested_congr (.inl rfl) h
  · exact breakTested_congr (testBreak_breakTested { b with ifr := b.ifr ||| k }) h

/-- Every operation but BRK_CLR, RESET and LOAD_STATE leaves `brk` as it was or sets it on a pending interrupt. -/
theorem exec_breakTested {i : Instr} (hclear : i ≠ .brkClr) (hreset : i ≠ .reset) (hload : ∀ b, i ≠ .loadState b)
    (h : exec i s = .next t) : s.blk.breakTested t.blk := by
  cases i with
  | brkClr => exact absurd rfl hclear
  | reset => exact absurd rfl hreset
  | loadState snap => exact absurd rfl (hload snap)
  | wrIf v =>
    cases h
    exact testBreak_breakTested { s.blk with ifr := v }
  | wrIe v =>
    cases h
    exact testBreak_breakTested { s.blk with ie := v }
  | irqAck =>
    cases h
    exact .inl ((congrArg Block.brk (acknowledge_frame s.blk)).trans rfl)
  | _ => exact (exec_onlyRequests rfl h).breakTested

/-- Settles O30: BRK_CLR and RESET end with `brk` clear, and every other operation but LOAD_STATE ends with it as it was
or with an interrupt pending. -/
theorem breakFlagRisesOnlyWithAPendingInterrupt : Obligations.BreakFlagRisesOnlyWithAPendingInterrupt := by
  intro i s t h
  by_cases hclear : i = .brkClr
  · subst hclear
    cases h
    exact ⟨fun _ hset => absurd hset Bool.false_ne_true, fun _ _ => .inl rfl⟩
  by_cases hreset : i = .reset
  · subst hreset
    cases h
    exact ⟨fun _ hset => absurd hset Bool.false_ne_true, fun _ _ => .inr (.inl rfl)⟩
  by_cases hload : ∃ snap, i = .loadState snap
  · exact ⟨fun _ _ => .inr hload, fun _ _ => .inr (.inr hload)⟩
  rcases exec_breakTested hclear hreset (fun snap hi => hload ⟨snap, hi⟩) h with hkept | ⟨hset, hpending⟩
  · rw [hkept]
    exact ⟨fun hfalse htrue => absurd (hfalse.symm.trans htrue) Bool.false_ne_true,
      fun htrue hfalse => absurd (hfalse.symm.trans htrue) Bool.false_ne_true⟩
  · exact ⟨fun _ _ => .inl hpending, fun _ hfalse => absurd (hfalse.symm.trans hset) Bool.false_ne_true⟩

end Sys2Proof.Machine
end

section
/-! TICK, SPEED_SWITCH and the cycle counter (spec/44_clock_scheduler.md R280 to R284; spec/10_state.md R37): TICK's
cycles add up, and no operation but TICK, RESET and LOAD_STATE moves the counter. -/

namespace Sys2Proof.Machine

variable {s t : State} {b : Block}

/-! ### TICK (R280 to R282) -/

/-- Settles O44: TICK is `cycles`, whose two equations are its definition and whose count is that of its steps. -/
theorem tickRunsSingleCycleSteps : Obligations.TickRunsSingleCycleSteps :=
  fun s n => ⟨rfl, rfl, rfl, (cycles_dividerPart s.cfg n s.blk).1⟩

/-- Settles O45: the cycles of the sum are those of the first TICK and then those of the second. -/
theorem tickSplits : Obligations.TickSplits := by
  refine fun _ m n => ⟨_, _, rfl, rfl, ?_⟩
  rw [exec, execTick, cycles_add]
  rfl

/-! ### SPEED_SWITCH (R284) -/

/-- Settles O51: the guard is the machine's type, and `timer_sync()` keeps the counters and the divider's latch. -/
theorem speedSwitchTogglesAndRelatches : Obligations.SpeedSwitchTogglesAndRelatches :=
  fun _ => ⟨fun hcgb => ⟨if_pos hcgb, timerSync_scanlineCounter _ _, timerSync_offCounter _ _,
    timerSync_lastDividerCycle _ _, timerSync_cycle _ _⟩, fun hcgb => if_neg (Bool.eq_false_iff.mp hcgb)⟩

/-! ### The operations that let no time pass (R37, R280) -/

theorem port_of_done {r : Reply} {ps : List Pulse} (h : done s b r ps = .next t) : t.port = s.port := by
  cases h
  rfl

theorem execRdIo_port {a : Addr} (h : execRdIo a s = .next t) : t.port = s.port := by
  unfold execRdIo at h
  split at h <;> cases h <;> rfl

/-- No operation touches the words waiting (log 1). -/
theorem exec_port {i : Instr} (h : exec i s = .next t) : t.port = s.port := by
  cases i with
  | rdXram _ => exact port_of_done (execRdXram_next h)
  | wrXram _ _ => exact port_of_done (execWrXram_next h)
  | rdIo _ => exact execRdIo_port h
  | wrIo _ _ => exact (execWrIo_next h).elim port_of_done port_of_done
  | wrLcdc _ =>
    rcases execWrLcdc_next h with ⟨-, h⟩ | ⟨-, -, h⟩ | ⟨-, h⟩
    all_goals exact port_of_done h
  | irqReq _ =>
    obtain ⟨src, h⟩ := execIrqReq_next h
    exact port_of_done h
  | speedSwitch => exact port_of_done (execSpeedSwitch_next h)
  | mbcRombank _ => exact port_of_done (execMbcRombank_next h).2
  | mbcRambank _ => exact port_of_done (execMbcRambank_next h).2
  | wrBootoff _ | reset =>
    cases h
    rfl
  | loadState snap =>
    obtain ⟨-, rfl⟩ := (execLoadState_next snap s t).mp h
    rfl
  | _ => exact port_of_done h

theorem cycle_of_done {r : Reply} {ps : List Pulse} (h : done s b r ps = .next t) (hb : b.cycle = s.blk.cycle) :
    t.blk.cycle = s.blk.cycle := by
  cases h
  exact hb

theorem cycle_of_besideStores {r : Reply} {ps : List Pulse} (h : done s b r ps = .next t)
    (hb : b.besideStores = s.blk.besideStores) : t.blk.cycle = s.blk.cycle :=
  cycle_of_done h (congrArg (·.1.1) hb)

/-- No operation but TICK, RESET and LOAD_STATE writes the cycle counter (R37). -/
theorem exec_cycle {i : Instr} (htick : ∀ n, i ≠ .tick n) (hreset : i ≠ .reset) (hload : ∀ b, i ≠ .loadState b)
    (h : exec i s = .next t) : t.blk.cycle = s.blk.cycle := by
  cases i with
  | tick n => exact absurd rfl (htick n)
  | reset => exact absurd rfl hreset
  | loadState snap => exact absurd rfl (hload snap)
  | rdXram _ => exact cycle_of_done (execRdXram_next h) rfl
  | rdIo _ => exact congrArg Block.cycle (execRdIo_next h).2.1
  -- the timer, the clock and the interrupt controller
  | rdTima | wrTima _ | wrTma _ | wrTac _ => exact cycle_of_done h (timerSync_cycle s.cfg s.blk)
  | speedSwitch => exact cycle_of_done (execSpeedSwitch_next h) (timerSync_cycle s.cfg s.blk)
  | irqReq _ =>
    obtain ⟨src, h⟩ := execIrqReq_next h
    exact cycle_of_done h (requestInterrupt_cycle src s.blk)
  | irqAck => exact cycle_of_done h ((congrArg Block.cycle (acknowledge_frame s.blk)).trans rfl)
  -- the display
  | wrLcdc v =>
    rcases execWrLcdc_next h with ⟨-, h⟩ | ⟨-, -, h⟩ | ⟨-, h⟩
    · exact cycle_of_done h (congrArg (·.1.1) (turnOff_besideDisplay { s.blk with lcdc := v }))
    · exact cycle_of_done h (enterMode2_cycle { s.blk with lcdc := v })
    · exact cycle_of_done h rfl
  | wrLyc v => exact cycle_of_done h (lycCheck_cycle { s.blk with lyc := v })
  -- the memories
  | wrVram a v | wrWram0 a v | wrWramx a v | wrEcho0 a v =>
    exact cycle_of_besideStores h (tableWrite_besideStores s.blk a v)
  | wrXram a v => exact cycle_of_besideStores (execWrXram_next h) (tableWrite_besideStores s.blk a v)
  | wrEcho1 _ v => exact cycle_of_besideStores h (cellWrite_besideStores s.blk _ v)
  | wrHram _ v | wrOam _ v => exact cycle_of_besideStores h (writeByte_besideStores s.blk _ _ v)
  | wrIo _ v =>
    rcases execWrIo_next h with h | h
    · exact cycle_of_done h rfl
    · exact cycle_of_besideStores h (writeByte_besideStores s.blk _ _ v)
  -- the banks
  | wrVbk _ =>
    obtain ⟨bank, -, h⟩ := execWrVbk_next h
    exact cycle_of_done h rfl
  | wrSvbk _ =>
    obtain ⟨bank, -, h⟩ := execWrSvbk_next h
    exact cycle_of_done h rfl
  | mbcRombank _ => exact cycle_of_done (execMbcRombank_next h).2 rfl
  | mbcRambank _ => exact cycle_of_done (execMbcRambank_next h).2 rfl
  | wrBootoff _ =>
    cases h
    rfl
  | _ => exact cycle_of_done h rfl

/-- Settles O46: TICK, RESET and LOAD_STATE by what each makes of the counter, every other operation by its frame. -/
theorem onlyTickMovesTime : Obligations.OnlyTickMovesTime := by
  refine fun i s t h => ⟨exec_cfg h, exec_port h, ?tick, ?reset, ?loadState,
    fun htick hreset hload => exec_cycle htick hreset hload h⟩
  case tick =>
    rintro n rfl
    cases h
    exact (cycles_dividerPart s.cfg n s.blk).1
  case reset =>
    rintro rfl
    exact congrArg Block.cycle (execReset_next h).2.1
  case loadState =>
    rintro snap rfl
    obtain ⟨-, rfl⟩ := (execLoadState_next snap s t).mp h
    rfl

end Sys2Proof.Machine
end

section
/-! The scheduler's outputs (spec/44_clock_scheduler.md R286 to R288): the smallest of the countdowns that run, each of
which has a cycle to go. -/

namespace Sys2Proof.Machine

variable {cfg : Cfg} {w : Bool} {b : Block} {m n : Nat} {serial sound : Option Nat}

/-! ### The smallest of a count and some countdowns -/

theorem minNone_le_left (n : Nat) (o : Option Nat) : minNone n o ≤ n := by
  cases o with
  | none => exact le_rfl
  | some m => exact min_le_left n m

/-- The smaller of a count and a countdown is one of them. -/
theorem minNone_eq_or (n : Nat) (o : Option Nat) : minNone n o = n ∨ some (minNone n o) = o := by
  cases o with
  | none => exact .inl rfl
  | some m => exact (min_choice n m).imp id (congrArg some)

/-- The smallest of a count and some countdowns is at most each of them. -/
theorem foldl_minNone_le {downs : List (Option Nat)} (hm : some m ∈ some n :: downs) :
    downs.foldl minNone n ≤ m := by
  induction downs generalizing n m with
  | nil => exact (Option.some.inj (List.mem_singleton.mp hm)).ge
  | cons o rest ih =>
    have hhead : rest.foldl minNone (minNone n o) ≤ minNone n o := ih List.mem_cons_self
    simp only [List.mem_cons] at hm
    rcases hm with hm | hm | hm
    · exact Option.some.inj hm ▸ hhead.trans (minNone_le_left n o)
    · subst hm
      exact hhead.trans (min_le_right n m)
    · exact ih (List.mem_cons_of_mem _ hm)

/-- The smallest of a count and some countdowns is one of them. -/
theorem foldl_minNone_mem (n : Nat) (downs : List (Option Nat)) : some (downs.foldl minNone n) ∈ some n :: downs := by
  induction downs generalizing n with
  | nil => exact List.mem_singleton_self _
  | cons o rest ih =>
    rcases List.mem_cons.mp (ih (minNone n o)) with heq | hmem
    · rw [List.foldl_cons, heq]
      rcases minNone_eq_or n o with hn | ho
      · rw [hn]
        exact List.mem_cons_self
      · rw [ho]
        exact List.mem_cons_of_mem _ List.mem_cons_self
    · exact List.mem_cons_of_mem _ (List.mem_cons_of_mem _ hmem)

/-! ### `cyclesToEvent` and `cycleBudget` (R286, R287) -/

theorem cyclesToEvent_eq (cfg : Cfg) (serial sound : Option Nat) (b : Block) :
    cyclesToEvent cfg serial sound b = [b.timerCounter cfg, serial, sound].foldl minNone b.lcdCounter := rfl

/-- The counter of the LCD has at least one cycle to go (INV5, INV9). -/
theorem one_le_lcdCounter (h : b.lcdInv) : 1 ≤ b.lcdCounter := by
  obtain ⟨-, -, h5, h9, -⟩ := h
  unfold Block.lcdCounter
  split
  case isTrue hon => exact (h5 hon).1
  case isFalse => exact h9

/-- Unless an external countdown is over, every countdown that runs has at least one cycle to go. -/
theorem one_le_countdown (h : b.Inv cfg w) (hserial : serial ≠ some 0) (hsound : sound ≠ some 0)
    (hm : some m ∈ some b.lcdCounter :: [b.timerCounter cfg, serial, sound]) : 1 ≤ m := by
  simp only [List.mem_cons, List.not_mem_nil, or_false] at hm
  rcases hm with hm | hm | hm | hm
  · exact Option.some.inj hm ▸ one_le_lcdCounter h.display
  · exact (timerCounter_bounds h.clock.2 hm.symm).1
  · exact Nat.one_le_iff_ne_zero.mpr fun hzero => hserial (hzero ▸ hm.symm)
  · exact Nat.one_le_iff_ne_zero.mpr fun hzero => hsound (hzero ▸ hm.symm)

/-- Settles O50: `cyclesToEvent` is the smallest of the four countdowns, and each of them is positive. -/
theorem schedulerOutputIsTheSmallestCountdown : Obligations.SchedulerOutputIsTheSmallestCountdown := by
  intro s serial sound
  have hmem := foldl_minNone_mem s.blk.lcdCounter [s.blk.timerCounter s.cfg, serial, sound]
  rw [← cyclesToEvent_eq] at hmem
  refine ⟨fun m hm => foldl_minNone_le hm, hmem, fun hs hserial hsound => ?_, rfl⟩
  exact one_le_countdown ((inv_iff s).mp hs).2 hserial hsound hmem

end Sys2Proof.Machine
end

section
/-! The cycles up to the LCD's next event (spec/44_clock_scheduler.md R283, R286): they are one timer update, a lowered
counter and at most one LCD step, so the chunked update and the event-driven run do what TICK does. -/

namespace Sys2Proof.Machine

variable {cfg : Cfg} {w : Bool} {b : Block} {k n : Nat}

/-! ### Time passing and the LCD's counter -/

/-- `n` cycles counted at once, before the timer update of a chunk (R283). -/
def Block.pass (n : Nat) (b : Block) : Block :=
  { b with cycle := b.cycle + n, cyclesSinceVblank := b.cyclesSinceVblank + n }

theorem pass_pass (m n : Nat) (b : Block) : (b.pass m).pass n = b.pass (m + n) := by
  simp only [Block.pass, Nat.add_assoc]

/-- The counter of the LCD that runs, `lcdCounter` of R286, set to `k`. -/
def Block.setLcd (k : Nat) (b : Block) : Block :=
  { b with
    scanlineCounter := bif b.lcdOn then k else b.scanlineCounter
    offCounter := bif b.lcdOn then b.offCounter else k }

theorem lcdCounter_eq (b : Block) : b.lcdCounter = bif b.lcdOn then b.scanlineCounter else b.offCounter := by
  rw [cond_eq_ite, Block.lcdCounter]

theorem lcdCounter_setLcd (k : Nat) (b : Block) : (b.setLcd k).lcdCounter = k := by
  simp only [lcdCounter_eq, Block.setLcd, Block.lcdOn]
  cases lcdOnBit b.lcdc <;> rfl

theorem setLcd_lcdCounter (b : Block) : b.setLcd b.lcdCounter = b := by
  simp only [lcdCounter_eq, Block.setLcd]
  cases b.lcdOn <;> rfl

/-- Before the last cycle of its counter the LCD only counts (R210, R211). -/
theorem lcdStep_setLcd (hk : 1 ≤ k) (b : Block) : lcdStep (b.setLcd (k + 1)) = (b.setLcd k, []) := by
  unfold Block.setLcd
  cases hlcd : b.lcdOn with
  | true => exact lcdStep_counting hlcd (Nat.succ_le_succ hk)
  | false => exact lcdStep_off_counting hlcd (Nat.succ_le_succ hk)

/-! ### `timer_sync()` beside the LCD -/

theorem countTo_counters (c v s o : Nat) (b : Block) :
    { b with cyclesSinceVblank := v, scanlineCounter := s, offCounter := o }.countTo c =
      { b.countTo c with cyclesSinceVblank := v, scanlineCounter := s, offCounter := o } := by
  unfold Block.countTo
  cases decide (256 ≤ c) <;> rfl

/-- `timer_sync()` neither reads nor writes the LCD's counters. -/
theorem timerSync_counters (cfg : Cfg) (b : Block) (v s o : Nat) :
    timerSync cfg { b with cyclesSinceVblank := v, scanlineCounter := s, offCounter := o } =
      { timerSync cfg b with cyclesSinceVblank := v, scanlineCounter := s, offCounter := o } := by
  unfold timerSync
  split
  · rw [reloadLoop_eq le_rfl, reloadLoop_eq le_rfl]
    exact countTo_counters _ v s o { b with lastTimerCycle := _ }
  · rfl

theorem timerSync_lcdCounter (cfg : Cfg) (b : Block) : (timerSync cfg b).lcdCounter = b.lcdCounter := by
  simp only [lcdCounter_eq, Block.lcdOn, timerSync_lcdc, timerSync_scanlineCounter, timerSync_offCounter]

theorem timerSync_setLcd (cfg : Cfg) (k : Nat) (b : Block) :
    timerSync cfg (b.setLcd k) = (timerSync cfg b).setLcd k := by
  refine (timerSync_counters cfg b b.cyclesSinceVblank _ _).trans ?_
  simp [Block.setLcd, Block.lcdOn]

/-- A timer update after `n` cycles, with the cycles since the last frame counted beside it. -/
theorem timerSync_pass (cfg : Cfg) (n : Nat) (b : Block) :
    timerSync cfg (b.pass n) =
      { timerSync cfg (b.elapse n) with cyclesSinceVblank := b.cyclesSinceVblank + n } := by
  refine (timerSync_counters cfg (b.elapse n) _ b.scanlineCounter b.offCounter).trans ?_
  simp [Block.elapse]

/-- An earlier timer update adds nothing to a later one (R186). -/
theorem timerSync_pass_timerSync (hlatch : b.lastTimerCycle ≤ b.cycle) (n : Nat) :
    timerSync cfg ((timerSync cfg b).pass n) = timerSync cfg (b.pass n) := by
  rw [timerSync_pass, timerSync_pass, timerSync_elapse_timerSync hlatch, timerSync_cyclesSinceVblank]

/-! ### Single cycles up to the LCD's next event -/

/-- The timer updated after `n` cycles, with `k` cycles of the LCD's counter to go. -/
def Block.advance (cfg : Cfg) (n k : Nat) (b : Block) : Block := (timerSync cfg (b.pass n)).setLcd k

theorem advance_zero (hsync : b.synced cfg) : b.advance cfg 0 b.lcdCounter = b := by
  have hsame : timerSync cfg (b.pass 0) = b := timerSync_of_synced hsync
  rw [Block.advance, hsame, setLcd_lcdCounter]

/-- Another cycle after `n` is one LCD step of what `n + 1` cycles make of the timer (R281). -/
theorem cycleStep_advance (hlatch : b.lastTimerCycle ≤ b.cycle) (n k : Nat) :
    cycleStep cfg (b.advance cfg n k) = lcdStep (b.advance cfg (n + 1) k) := by
  have hlatchn : (b.pass n).lastTimerCycle ≤ (b.pass n).cycle := Nat.le_add_right_of_le hlatch
  calc cycleStep cfg (b.advance cfg n k)
    _ = lcdStep (timerSync cfg (((timerSync cfg (b.pass n)).pass 1).setLcd k)) := rfl
    _ = lcdStep (b.advance cfg (n + 1) k) := by
        rw [timerSync_setLcd, timerSync_pass_timerSync hlatchn, pass_pass, Block.advance]

/-- Cycles that end before the LCD's next event are one timer update and a lowered counter (R286). -/
theorem cycles_before_event (hlatch : b.lastTimerCycle ≤ b.cycle) (hsync : b.synced cfg) (h : n < b.lcdCounter) :
    cycles cfg n b = (b.advance cfg n (b.lcdCounter - n), []) := by
  induction n with
  | zero => rw [Nat.sub_zero, advance_zero hsync, cycles]
  | succ n ih =>
    have hleft : b.lcdCounter - n = b.lcdCounter - (n + 1) + 1 := by omega
    have hlast : lcdStep (b.advance cfg (n + 1) (b.lcdCounter - n)) =
        (b.advance cfg (n + 1) (b.lcdCounter - (n + 1)), []) := by
      rw [hleft]
      exact lcdStep_setLcd (by omega) _
    rw [cycles_add, ih (by omega), cycles, cycleStep_advance hlatch, hlast]
    rfl

/-- Cycles up to and with the LCD's next event are one timer update, a lowered counter and one LCD step. -/
theorem cycles_to_event (hlatch : b.lastTimerCycle ≤ b.cycle) (hsync : b.synced cfg) (h : n < b.lcdCounter) :
    cycles cfg (n + 1) b = lcdStep (b.advance cfg (n + 1) (b.lcdCounter - n)) := by
  rw [cycles_add, cycles_before_event hlatch hsync h, ← cycleStep_advance hlatch]
  exact congrArg (Prod.mk _) (List.append_nil _)

/-! ### The chunked update (R283) -/

/-- The chunked update as one timer update and one LCD step. -/
theorem chunk_eq (cfg : Cfg) (n : Nat) (b : Block) :
    chunk cfg n b = lcdStep (b.advance cfg n (b.lcdCounter - n + 1)) := by
  have hcounter : (timerSync cfg (b.pass n)).lcdCounter = b.lcdCounter := timerSync_lcdCounter cfg (b.pass n)
  rw [Block.advance, ← hcounter, lcdCounter_eq, Block.setLcd, chunk, ← Block.pass]
  generalize timerSync cfg (b.pass n) = c
  cases c.lcdOn <;> simp

/-- The chunked update up to the LCD's next event is as many single cycles. -/
theorem chunk_eq_cycles (hinv : b.Inv cfg w) (h : n ≤ b.lcdCounter) : chunk cfg n b = cycles cfg n b := by
  obtain ⟨⟨hlatch, -⟩, hsync⟩ := hinv.clock
  rw [chunk_eq]
  cases n with
  | zero =>
    rw [Nat.sub_zero]
    exact (lcdStep_setLcd (one_le_lcdCounter hinv.display) _).trans (congrArg (·, []) (advance_zero hsync))
  | succ n =>
    have hleft : b.lcdCounter - (n + 1) + 1 = b.lcdCounter - n := by omega
    rw [hleft, cycles_to_event hlatch hsync h]

/-- Settles O48: the bound by the LCD's counter is enough, since a timer update may come at any time. -/
theorem chunkedUpdateEqualsSingleCycles : Obligations.ChunkedUpdateEqualsSingleCycles :=
  fun s _ hs h => chunk_eq_cycles ((inv_iff s).mp hs).2 (h.trans (minNone_le_left _ _))

/-! ### From event to event (R282, R283) -/

theorem eventCycles_eq_cycles (fuel : Nat) (hinv : b.Inv cfg w) : eventCycles cfg fuel n b = cycles cfg n b := by
  induction fuel generalizing n b with
  | zero => rfl
  | succ fuel ih =>
    unfold eventCycles
    split
    case isTrue hn => rw [hn]; rfl
    case isFalse =>
      obtain ⟨m, hm⟩ : ∃ m, m = min n (minNone b.lcdCounter (b.timerCounter cfg)) := ⟨_, rfl⟩
      have hlcd : m ≤ b.lcdCounter := hm ▸ (min_le_right _ _).trans (minNone_le_left _ _)
      have hle : m ≤ n := hm ▸ min_le_left _ _
      simp only [← hm]
      rw [chunk_eq_cycles hinv hlcd, ih (hinv.after_cycles m), ← cycles_add, Nat.add_sub_of_le hle]

/-- Settles O49: by induction on the number of chunks, each of which is as many single cycles. -/
theorem eventDrivenRunEqualsSingleCycles : Obligations.EventDrivenRunEqualsSingleCycles :=
  fun s fuel _ hs => eventCycles_eq_cycles fuel ((inv_iff s).mp hs).2

/-! ### Before the next event (R286) -/

/-- A timer update without an overflow leaves the interrupt registers alone. -/
theorem timerSync_irqPart (hlatch : b.lastTimerCycle ≤ b.cycle)
    (h : tacEnable b.tac = true → b.timaCount cfg < 256) : (timerSync cfg b).irqPart = b.irqPart := by
  cases hen : tacEnable b.tac with
  | false =>
    rw [timerSync_of_disabled hen]
    rfl
  | true =>
    rw [timerSync_of_enabled hen hlatch, Block.countTo, decide_eq_false (Nat.not_le.mpr (h hen))]
    rfl

theorem timaCount_before_event (hlatch : b.lastTimerCycle ≤ b.cycle) (hsync : b.synced cfg)
    (h : ∀ m, b.timerCounter cfg = some m → n < m) (hen : tacEnable b.tac = true) :
    (b.elapse n).timaCount cfg < 256 := by
  cases ht : b.timerCounter cfg with
  | none => exact absurd (((timerCounter_eq_none_iff cfg b).mp ht).symm.trans hen) Bool.false_ne_true
  | some m => exact timaCount_before_timerCounter hlatch hsync ht (h m ht)

/-- Until the timer's next overflow its countdown falls by the cycles that pass. -/
theorem timerCounter_timerSync_elapse (hlatch : b.lastTimerCycle ≤ b.cycle) (hsync : b.synced cfg)
    (h : ∀ m, b.timerCounter cfg = some m → n < m) :
    (timerSync cfg (b.elapse n)).timerCounter cfg = (b.timerCounter cfg).map (· - n) := by
  have hlatch' : (b.elapse n).lastTimerCycle ≤ (b.elapse n).cycle := Nat.le_add_right_of_le hlatch
  cases ht : b.timerCounter cfg with
  | none =>
    have hdis := (timerCounter_eq_none_iff cfg b).mp ht
    exact (timerCounter_eq_none_iff cfg _).mpr ((congrArg tacEnable (timerSync_tac cfg _)).trans hdis)
  | some m =>
    obtain ⟨hen, -, hsum⟩ := sinceLatch_add_timerCounter hsync ht
    have hcount := timaCount_before_timerCounter hlatch hsync ht (h m ht)
    have hen' : tacEnable (timerSync cfg (b.elapse n)).tac = true :=
      (congrArg tacEnable (timerSync_tac cfg _)).trans hen
    have hdiv := Nat.div_add_mod' (b.sinceLatch + n) (2 ^ b.timaSh cfg)
    rw [Block.timerCounter, if_pos hen', ← Block.sinceLatch, timerSync_sinceLatch (b := b.elapse n) hen hlatch',
      timerSync_tima_toNat (b := b.elapse n) hen hlatch', reloaded_of_lt hcount, timaCount_elapse hlatch,
      timerSync_timaSh, elapse_timaSh, sinceLatch_elapse hlatch, Nat.shiftLeft_eq, ← Nat.sub_sub, Nat.sub_mul]
    refine congrArg some (?_ : _ = m - n)
    omega

/-- Settles O47: such cycles are one timer update without an overflow and a lowered LCD counter. -/
theorem nothingHappensBeforeTheNextEvent : Obligations.NothingHappensBeforeTheNextEvent := by
  intro s n hs hlcd htimer
  obtain ⟨-, hinv⟩ := (inv_iff s).mp hs
  obtain ⟨⟨hlatch, -⟩, hsync⟩ := hinv.clock
  have hirq : (timerSync s.cfg (s.blk.pass n)).irqPart = s.blk.irqPart :=
    timerSync_irqPart (Nat.le_add_right_of_le hlatch) (timaCount_before_event hlatch hsync htimer)
  have hcountdown : (s.blk.advance s.cfg n (s.blk.lcdCounter - n)).timerCounter s.cfg =
      (timerSync s.cfg (s.blk.elapse n)).timerCounter s.cfg := by
    rw [Block.advance, timerSync_pass]
    rfl
  rw [cycles_before_event hlatch hsync hlcd, ← timerCounter_timerSync_elapse hlatch hsync htimer]
  exact ⟨rfl, congrArg (·.1) hirq, congrArg (·.2.2) hirq, timerSync_stat _ _, timerSync_ly _ _, timerSync_tac _ _,
    timerSync_tma _ _, lcdCounter_setLcd _ _, hcountdown⟩

end Sys2Proof.Machine
end

section
/-! A chunk of opcodes (spec/44_clock_scheduler.md R287, R290; spec/60_exceptions.md R320, R321): it executes an initial
part of the opcodes supplied, each of them only while the chunk has not ended. -/

namespace Sys2Proof.Machine

variable {budget : Nat} {op : Opcode} {ran rest program : List Opcode} {k k' : Chunk} {r : State × List Pulse}

/-- The CPU side after opcodes in order. -/
def cpuAfter (ran : List Opcode) (c : CpuSide) : CpuSide := ran.foldl (fun c op => op.after c) c

/-- The chunk after one more opcode, whose operations left `r`. -/
def Chunk.afterOpcode (k : Chunk) (op : Opcode) (r : State × List Pulse) (rest : List Opcode) : Chunk :=
  { cpu := op.after k.cpu, st := r.1, used := k.used + op.cycles, ticked := k.ticked + ticksIn op.ops
    pulses := k.pulses ++ r.2, program := rest }

/-- From `k` to `k'` exactly the opcodes `ran` were executed, each of them only while the chunk had not ended. -/
structure Chunk.Executes (budget : Nat) (k : Chunk) (ran : List Opcode) (k' : Chunk) : Prop where
  effects : ∃ ps, performAll (ran.flatMap Opcode.ops) k.st = .next (k'.st, ps) ∧ k'.pulses = k.pulses ++ ps
  cpu : k'.cpu = cpuAfter ran k.cpu
  used : k'.used = k.used + (ran.map Opcode.cycles).sum
  ticked : k'.ticked = k.ticked + (ran.map fun op => ticksIn op.ops).sum
  going : ∀ before last after, ran = before ++ last :: after →
    k.used + (before.map Opcode.cycles).sum < budget ∧ (cpuAfter before k.cpu).halted = false ∧
      ∃ r, performAll (before.flatMap Opcode.ops) k.st = .next r ∧ r.1.blk.brk = false

/-- A chunk ends when the budget is used, the CPU halts or `brk` is set (R287, R290). -/
theorem Chunk.ended_eq_true :
    k.ended budget = true ↔ budget ≤ k.used ∨ k.cpu.halted = true ∨ k.st.blk.brk = true := by
  rw [Chunk.ended, Bool.or_eq_true, Bool.or_eq_true, decide_eq_true_eq, or_comm]

/-- A chunk that stops executes nothing. -/
theorem Chunk.executes_nil (budget : Nat) (k : Chunk) (program : List Opcode) :
    k.Executes budget [] { k with program := program } where
  effects := ⟨[], rfl, (List.append_nil _).symm⟩
  cpu := rfl
  used := rfl
  ticked := rfl
  going := fun _ _ _ h => absurd h (by simp)

/-- One opcode and then others. -/
theorem Chunk.executes_cons (hgo : k.ended budget = false) (hop : performAll op.ops k.st = .next r)
    (h : (k.afterOpcode op r rest).Executes budget ran k') : k.Executes budget (op :: ran) k' where
  effects := by
    obtain ⟨ps, hps, hpulses⟩ := h.effects
    exact ⟨r.2 ++ ps, performAll_append_eq_next.mpr ⟨r, _, hop, hps, rfl⟩, hpulses.trans (List.append_assoc _ _ _)⟩
  cpu := h.cpu
  used := by rw [h.used, List.map_cons, List.sum_cons, ← Nat.add_assoc]; rfl
  ticked := by rw [h.ticked, List.map_cons, List.sum_cons, ← Nat.add_assoc]; rfl
  going := by
    obtain ⟨hhalt, hbrk, hbudget⟩ := Chunk.ended_eq_false.mp hgo
    intro before last after hsplit
    cases before with
    | nil => exact ⟨hbudget, hhalt, _, rfl, hbrk⟩
    | cons head before =>
      obtain ⟨rfl, hran⟩ := List.cons.inj hsplit
      obtain ⟨hused, hhalt', u, hu, hbrk'⟩ := h.going before last after hran
      refine ⟨?_, hhalt', (u.1, r.2 ++ u.2), performAll_append_eq_next.mpr ⟨r, u, hop, hu, rfl⟩, hbrk'⟩
      rwa [List.map_cons, List.sum_cons, ← Nat.add_assoc]

/-- A chunk executes an initial part of its opcodes, and ends where they do or where it must (R290 step 1). -/
theorem runOpcodes_executes (h : runOpcodes budget program k = .next k') :
    ∃ ran, program = ran ++ k'.program ∧ k.Executes budget ran k' ∧
      (k'.program = [] ∨ k'.ended budget = true) := by
  induction program generalizing k with
  | nil =>
    cases h
    exact ⟨[], rfl, k.executes_nil budget [], .inl rfl⟩
  | cons op rest ih =>
    cases hend : k.ended budget with
    | true =>
      cases (runOpcodes_of_ended hend).symm.trans h
      exact ⟨[], rfl, k.executes_nil budget _, .inr hend⟩
    | false =>
      obtain ⟨r, hop, hrest⟩ := andThen_eq_next.mp ((runOpcodes_cons hend).symm.trans h)
      obtain ⟨ran, hprogram, hran, hstop⟩ := ih (k := k.afterOpcode op r rest) hrest
      exact ⟨op :: ran, congrArg (op :: ·) hprogram, Chunk.executes_cons hend hop hran, hstop⟩

/-- A chunk answers if all the operations supplied to it do. -/
theorem runOpcodes_answers (h : ∃ r, performAll (program.flatMap Opcode.ops) k.st = .next r) :
    ∃ k', runOpcodes budget program k = .next k' := by
  induction program generalizing k with
  | nil => exact ⟨_, rfl⟩
  | cons op rest ih =>
    cases hend : k.ended budget with
    | true => exact ⟨_, runOpcodes_of_ended hend⟩
    | false =>
      obtain ⟨_, h⟩ := h
      obtain ⟨r, u, hop, hrest, -⟩ := performAll_append_eq_next.mp h
      obtain ⟨k', hk'⟩ := ih (k := k.afterOpcode op r rest) ⟨u, hrest⟩
      exact ⟨k', by rw [runOpcodes_cons hend, hop]; exact hk'⟩

/-- With a budget of one opcode step a fresh chunk executes exactly one opcode (R320, R321). -/
theorem runOpcodes_quirkStep (hgo : k.ended Config.quirkStepCycles = false) (hop : performAll op.ops k.st = .next r) :
    runOpcodes Config.quirkStepCycles (op :: rest) k = .next (k.afterOpcode op r rest) := by
  have hend : (k.afterOpcode op r rest).ended Config.quirkStepCycles = true := by
    have hused : Config.quirkStepCycles ≤ (k.afterOpcode op r rest).used :=
      op.four_le_cycles.trans (Nat.le_add_left _ _)
    simp [Chunk.ended, hused]
  rw [runOpcodes_cons hgo, hop]
  exact runOpcodes_of_ended hend

/-- Settles O60: the opcodes executed by induction on those supplied; a budget of one opcode step is used by one. -/
theorem opcodeChunksKeepTheirBudget : Obligations.OpcodeChunksKeepTheirBudget := by
  intro budget program c s
  refine ⟨fun k h => ?executed, runOpcodes_answers (k := ⟨c, s, 0, 0, [], program⟩), ?quirkStep⟩
  case executed =>
    obtain ⟨ran, hprogram, ⟨⟨ps, hps, hpulses⟩, hcpu, hused, hticked, hgoing⟩, hstop⟩ := runOpcodes_executes h
    simp only [Nat.zero_add, List.nil_append] at hpulses hused hticked hgoing
    exact ⟨ran, hprogram, hpulses ▸ hps, hcpu, hused, hticked, hgoing, hstop.imp id Chunk.ended_eq_true.mp⟩
  case quirkStep =>
    rintro op rest r rfl hhalt hbrk hop
    have hgo := Chunk.ended_eq_false (k := ⟨c, s, 0, 0, [], op :: rest⟩).mpr ⟨hhalt, hbrk, four_pos⟩
    refine ⟨(runOpcodes_quirkStep hgo hop).trans ?_, op.four_le_cycles⟩
    simp [Chunk.afterOpcode, Opcode.after]

end Sys2Proof.Machine
end

section
/-! Every bus operation answers (spec/60_exceptions.md R310; spec/20_memory.md R77, R82): a bus word decodes to an
operation of its own direction, and no such operation has a guard but the cartridge controller's claim (R145). -/

namespace Sys2Proof.Machine

variable {s : State} {i : Instr}

/-! ### The direction of a bus word is that of the operation it selects (R103) -/

/-- A bus write of the opcode map (rows 1 to 25). -/
def isBusWrite : Instr → Bool
  | .wrDiv _ | .wrTima _ | .wrTma _ | .wrTac _ | .wrIf _ | .wrLcdc _ | .wrStat _ | .wrLy _ | .wrLyc _ => true
  | .wrVbk _ | .wrBootoff _ | .wrSvbk _ | .wrIe _ => true
  | .wrHram _ _ | .wrIo _ _ | .wrOam _ _ | .wrUnused _ _ | .wrEcho1 _ _ | .wrEcho0 _ _ | .wrWramx _ _ => true
  | .wrWram0 _ _ | .wrXram _ _ | .wrVram _ _ | .wrRom _ _ => true
  | _ => false

theorem writeRows_build_isBusWrite :
    ∀ r ∈ busRowsWriteSingle ++ busRowsWriteRange, ∀ a v, isBusWrite (r.build a v) = true := by
  simp [busRowsWriteSingle, busRowsWriteRange, isBusWrite]

theorem readRows_build_isBusRead :
    ∀ r ∈ busRowsReadSingle ++ busRowsReadRange, ∀ a v, isBusRead (r.build a v) = true := by
  simp [busRowsReadSingle, busRowsReadRange, isBusRead]

/-- MemRead performs a bus read: no write row reaches a word with `rw = 0`. -/
theorem memRead_performs_read (a : Addr) (s : State) : ∃ i, isBusRead i = true ∧ memRead a s = exec i s := by
  obtain ⟨r, hr, hsel, hdecode⟩ := decodeBus_eq_build (0#1 ++ a) 0
  refine ⟨_, ?_, performWord_of_decode_instr (w := busRead a) hdecode s⟩
  rcases mem_busTable_iff.mp hr with hwrite | hread
  · have hfrom := ((BusRow.selects_iff hr _).mp hsel).1
    have hword := toNat_append_addr 0#1 a
    have hge := writeRows_value_ge r hwrite
    simp only [BitVec.toNat_ofNat] at hword
    omega
  · exact readRows_build_isBusRead r hread _ _

/-- MemWrite performs a bus write: no read row reaches a word with `rw = 1`. -/
theorem memWrite_performs_write (a : Addr) (v : Byte) (s : State) :
    ∃ i, isBusWrite i = true ∧ memWrite a v s = exec i s := by
  obtain ⟨r, hr, hsel, hdecode⟩ := decodeBus_eq_build (1#1 ++ a) v
  refine ⟨_, ?_, performWord_of_decode_instr (w := busWrite a v) hdecode s⟩
  rcases mem_busTable_iff.mp hr with hwrite | hread
  · exact writeRows_build_isBusWrite r hwrite _ _
  · have hto := ((BusRow.selects_iff hr _).mp hsel).2
    have hword := toNat_append_addr 1#1 a
    have hle := readRows_end_le r hread
    simp only [BitVec.toNat_ofNat] at hword
    omega

/-! ### Every bus read answers a byte, and every bus write a next state -/

theorem execRdIo_answers (a : Addr) (s : State) : ∃ t x, execRdIo a s = .next t ∧ t.out.reply = .rdata x := by
  cases hdel : delegated s.cfg a with
  | true => exact ⟨_, _, if_pos hdel, rfl⟩
  | false => exact ⟨_, _, execRdIo_of_not_delegated hdel, rfl⟩

theorem exec_answers_of_isBusRead (hfree : s.cfg.cartridgeWindow = false) (hi : isBusRead i = true) :
    ∃ t x, exec i s = .next t ∧ t.out.reply = .rdata x := by
  cases i with
  | rdXram a => exact ⟨_, _, execRdXram_of_unclaimed hfree, rfl⟩
  | rdIo a => exact execRdIo_answers a s
  | rdDiv | rdTima | rdTma | rdTac | rdIf | rdLcdc | rdStat | rdLy | rdLyc | rdIe | rdHram | rdOam | rdUnused | rdEcho1
  | rdEcho0 | rdWramx | rdWram0 | rdVram | rdRomx | rdRom0 => exact ⟨_, _, rfl, rfl⟩
  | _ => exact absurd hi Bool.false_ne_true

theorem execWrIo_answers (a : Addr) (v : Byte) (s : State) : ∃ t, execWrIo a v s = .next t := by
  cases hdel : delegated s.cfg a with
  | true => exact ⟨_, if_pos hdel⟩
  | false => exact ⟨_, execWrIo_of_not_delegated hdel⟩

theorem execWrLcdc_answers (v : Byte) (s : State) : ∃ t, execWrLcdc v s = .next t := by
  cases hon : s.blk.lcdOn <;> cases hv : lcdOnBit v
  case true.false => exact ⟨_, execWrLcdc_of_off hon hv⟩
  case false.true => exact ⟨_, execWrLcdc_of_on hon hv⟩
  all_goals exact ⟨_, execWrLcdc_of_same (hv.trans hon.symm)⟩

theorem exec_answers_of_isBusWrite (hfree : s.cfg.cartridgeWindow = false) (hi : isBusWrite i = true) :
    ∃ t, exec i s = .next t := by
  cases i with
  | wrXram a v => exact ⟨_, execWrXram_of_unclaimed hfree⟩
  | wrIo a v => exact execWrIo_answers a v s
  | wrLcdc v => exact execWrLcdc_answers v s
  | wrDiv | wrTima | wrTma | wrTac | wrIf | wrStat | wrLy | wrLyc | wrVbk | wrBootoff | wrSvbk | wrIe | wrHram | wrOam
  | wrUnused | wrEcho1 | wrEcho0 | wrWramx | wrWram0 | wrVram | wrRom => exact ⟨_, rfl⟩
  | _ => exact absurd hi Bool.false_ne_true

/-- Settles O7: the operation of a bus word, by its direction, and the two guards of those operations. -/
theorem busOperationsNeverFail : Obligations.BusOperationsNeverFail := by
  intro s a v hfree
  obtain ⟨r, hr, hread⟩ := memRead_performs_read a s
  obtain ⟨w, hw, hwrite⟩ := memWrite_performs_write a v s
  rw [hread, hwrite]
  exact ⟨exec_answers_of_isBusRead hfree hr, exec_answers_of_isBusWrite hfree hw⟩

end Sys2Proof.Machine
end

section
/-! Dispatch and return over the cells of the stack (spec/60_exceptions.md R318, R322): where the addresses below
`sp` reach cells, a dispatch is an acknowledge and two writes of cells, and the return reads them back. -/

namespace Sys2Proof.Machine

variable {s t : State} {c : CpuSide} {src : IrqSource} {b : Block} {a a' : Addr}

/-! ### The cell a bus address reaches -/

/-- As long as the configuration and the banks stay those of `s`, the bus at `a` writes and reads this cell. -/
def State.reaches (s : State) (a : Addr) (cell : Store × Nat) : Prop :=
  ∀ t : State, t.cfg = s.cfg → t.blk.bankPart = s.blk.bankPart →
    (∀ v, memWrite a v t = done t (t.blk.writeByte cell.1 cell.2 v)) ∧
      memRead a t = answerByte t (t.blk.byteOf cell.1 cell.2)

/-- The same cell is reached in every state with the same configuration and banks. -/
theorem State.reaches.of_banks {cell : Store × Nat} (h : s.reaches a cell) (hcfg : t.cfg = s.cfg)
    (hbanks : t.blk.bankPart = s.blk.bankPart) : t.reaches a cell :=
  fun u hu hbu => h u (hu.trans hcfg) (hbu.trans hbanks)

theorem reaches_hram (s : State) (ha : inRange 0xFF80 0xFFFE a = true) : s.reaches a (.hram, hramOff a) :=
  fun t _ _ => ⟨fun v => memWrite_eq_exec (w := .wrHram a v) ha rfl t, memRead_eq_exec (r := .rdHram a) ha rfl t⟩

/-- Where the rows of `a` go through the page table and its entry denotes a cell, that cell is reached. -/
theorem reaches_of_tableCell {cell : Store × Nat}
    (hw : ∀ v t, memWrite a v t = done t (tableWrite t.blk a v))
    (hr : ∀ t, memRead a t = answerByte t (tableRead t.cfg t.blk a))
    (hc : ∀ t : State, t.blk.inv6 t.cfg → t.blk.bankPart = s.blk.bankPart → t.blk.tableCell a = some cell)
    (h6 : s.blk.inv6 s.cfg) : s.reaches a cell := by
  intro t hcfg hbanks
  have hct := hc t (hcfg ▸ inv6_congr (tablePart_of_bankPart hbanks) h6) hbanks
  exact ⟨fun v => (hw v t).trans (congrArg (done t ·) (tableWrite_of_tableCell hct v)),
    (hr t).trans (congrArg (answerByte t) (tableRead_of_tableCell hct))⟩

theorem reaches_wram0 (h6 : s.blk.inv6 s.cfg) (ha : inRange 0xC000 0xCFFF a = true) :
    s.reaches a (.wram, 0 * 0x1000 + a.toNat % 0x1000) :=
  reaches_of_tableCell (fun v => memWrite_eq_exec (w := .wrWram0 a v) ha rfl) (memRead_eq_exec (r := .rdWram0 a) ha rfl)
    (fun _ h6t _ => tableCell_wram0 h6t ha) h6

theorem reaches_wramx (h6 : s.blk.inv6 s.cfg) (ha : inRange 0xD000 0xDFFF a = true) :
    s.reaches a (.wram, s.blk.wramBank * 0x1000 + a.toNat % 0x1000) := by
  refine reaches_of_tableCell (fun v => memWrite_eq_exec (w := .wrWramx a v) ha rfl)
    (memRead_eq_exec (r := .rdWramx a) ha rfl) (fun t h6t hbanks => ?_) h6
  have hbank : t.blk.wramBank = s.blk.wramBank := congrArg (·.2.2.2.2.1) hbanks
  exact hbank ▸ tableCell_wramx h6t ha

/-! ### The dispatch (R318) -/

@[simp] theorem complete_complete (s : State) (b b' : Block) (r r' : Reply) (ps ps' : List Pulse) :
    (s.complete b r ps).complete b' r' ps' = s.complete b' r' ps' := rfl

/-- The CPU side after a dispatch of `src`. -/
def CpuSide.vectored (c : CpuSide) (cfg : Cfg) (src : IrqSource) : CpuSide :=
  { ime := false, halted := false, sp := c.sp - 2, pc := src.vector, owed := c.owed + cfg.irqDispatchCycles }

/-- The aggregate after a dispatch that pushes `pc` to the cells `hi` and `lo`. -/
def Block.dispatched (b : Block) (pc : Addr) (hi lo : Store × Nat) : Block :=
  ((acknowledge b).writeByte hi.1 hi.2 (pc.extractLsb' 8 8)).writeByte lo.1 lo.2 (pc.extractLsb' 0 8)

theorem acknowledge_bankPart (b : Block) : (acknowledge b).bankPart = b.bankPart :=
  (congrArg Block.bankPart (acknowledge_frame b)).trans rfl

theorem writeByte_bankPart (b : Block) (st : Store) (i : Nat) (v : Byte) : (b.writeByte st i v).bankPart = b.bankPart :=
  congrArg (·.2.2) (writeByte_besideStores b st i v)

theorem dispatched_bankPart (b : Block) (pc : Addr) (hi lo : Store × Nat) :
    (b.dispatched pc hi lo).bankPart = b.bankPart :=
  (writeByte_bankPart _ _ _ _).trans ((writeByte_bankPart _ _ _ _).trans (acknowledge_bankPart b))

/-- The bytes after a dispatch: the low byte of `pc` in `lo`, the high byte in `hi`, which was written first. -/
theorem byteOf_dispatched (b : Block) (pc : Addr) (hi lo : Store × Nat) (st : Store) (k : Nat) :
    (b.dispatched pc hi lo).byteOf st k =
      if st = lo.1 ∧ k = lo.2 then pc.extractLsb' 0 8
      else if st = hi.1 ∧ k = hi.2 then pc.extractLsb' 8 8
      else b.byteOf st k := by
  rw [Block.dispatched, byteOf_writeByte, byteOf_writeByte, acknowledge_frame]
  rfl

/-- A dispatch acknowledges the selected source and writes `pc` to the two cells below `sp`. -/
theorem dispatch_of_reaches {hi lo : Store × Nat} (hime : c.ime = true) (hsel : s.blk.irqSelect = some src)
    (hhi : s.reaches (c.sp - 1) hi) (hlo : s.reaches (c.sp - 2) lo) :
    dispatch c s = .next (c.vectored s.cfg src, s.complete (s.blk.dispatched c.pc hi lo) .none []) := by
  have hacked := acknowledge_bankPart s.blk
  have hwrite1 := (hhi (s.complete (acknowledge s.blk) (.ack (some (src, src.vector))) []) rfl hacked).1
  have hwrite2 := (hlo (s.complete ((acknowledge s.blk).writeByte hi.1 hi.2 (c.pc.extractLsb' 8 8)) .none []) rfl
    ((writeByte_bankPart _ _ _ _).trans hacked)).1
  simp only [done, complete_blk, complete_complete] at hwrite1 hwrite2
  simp only [dispatch, hsel, hime, if_true, execIrqAck, done, Option.map_some, andThen_of_next, hwrite1, hwrite2]
  rfl

/-- Settles O57: the two bytes below `sp` are cells of high RAM. -/
theorem dispatchPushesThePcAndVectors : Obligations.DispatchPushesThePcAndVectors := by
  refine fun c s => ⟨fun src hime hsel hhi hlo => ?_, dispatch_of_not⟩
  refine ⟨_, dispatch_of_reaches hime hsel (reaches_hram s hhi) (reaches_hram s hlo), ?frame, fun j hj => ?request,
    fun k => ?stack⟩
  case frame =>
    rw [Block.dispatched, acknowledge_of_some hsel]
    rfl
  case request =>
    rw [Block.dispatched, acknowledge_of_some hsel]
    exact clearMask_getLsbD _ src hj
  case stack =>
    refine (byteOf_dispatched s.blk c.pc _ _ .hram k).trans ?_
    simp only [true_and, hramOff]

/-! ### The return (R322) -/

/-- The return reads `pc` from the two cells at `sp` and changes nothing in the block. -/
theorem returnFromHandler_of_reaches {hi lo : Store × Nat} (hlo : s.reaches c.sp lo) (hhi : s.reaches (c.sp + 1) hi) :
    returnFromHandler c s =
      .next ({ c with ime := true, pc := s.blk.byteOf hi.1 hi.2 ++ s.blk.byteOf lo.1 lo.2, sp := c.sp + 2 },
        s.complete s.blk (.rdata (s.blk.byteOf hi.1 hi.2)) []) := by
  have hread1 := (hlo s rfl rfl).2
  have hread2 := (hhi (s.complete s.blk (.rdata (s.blk.byteOf lo.1 lo.2)) []) rfl rfl).2
  simp only [answerByte, done] at hread1 hread2
  simp only [returnFromHandler, hread1, andThen_of_next]
  rw [hread2]
  rfl

theorem high_append_low (pc : Addr) : pc.extractLsb' 8 8 ++ pc.extractLsb' 0 8 = pc := by
  rw [BitVec.extractLsb'_append_extractLsb'_eq_extractLsb' (start₁ := 0) (len₁ := 8) rfl]
  exact BitVec.extractLsb'_eq_self

/-- The two bytes pushed make up `pc` again if they lie in different cells. -/
theorem dispatched_pc (b : Block) (pc : Addr) {hi lo : Store × Nat} (hne : hi ≠ lo) :
    (b.dispatched pc hi lo).byteOf hi.1 hi.2 ++ (b.dispatched pc hi lo).byteOf lo.1 lo.2 = pc := by
  rw [byteOf_dispatched, byteOf_dispatched, if_neg fun h => hne (Prod.ext h.1 h.2), if_pos ⟨rfl, rfl⟩,
    if_pos ⟨rfl, rfl⟩, high_append_low]

/-- The stack bytes may lie in work RAM or in high RAM. -/
abbrev onStack (a : Addr) : Prop := (inRange 0xC000 0xDFFF a || inRange 0xFF80 0xFFFE a) = true

/-- The cell of a stack byte. -/
def Block.stackCell (b : Block) (a : Addr) : Store × Nat :=
  if inRange 0xFF80 0xFFFE a then (.hram, hramOff a)
  else if inRange 0xC000 0xCFFF a then (.wram, 0 * 0x1000 + a.toNat % 0x1000)
  else (.wram, b.wramBank * 0x1000 + a.toNat % 0x1000)

theorem reaches_stackCell (h6 : s.blk.inv6 s.cfg) (ha : onStack a) : s.reaches a (s.blk.stackCell a) := by
  unfold Block.stackCell
  split
  case isTrue hhram => exact reaches_hram s hhram
  case isFalse hhram =>
    have hwram := ((Bool.or_eq_true _ _).mp ha).resolve_right hhram
    split
    case isTrue h0 => exact reaches_wram0 h6 h0
    case isFalse h0 => exact reaches_wramx h6 ((inRange_split 0xCFFF hwram).resolve_left h0)

/-- No two bytes of the stack share a cell: the switchable bank is never bank 0 (INV7). -/
theorem stackCell_injOn (hbank : 1 ≤ b.wramBank) (ha : onStack a) (ha' : onStack a')
    (h : b.stackCell a = b.stackCell a') : a = a' := by
  simp only [Bool.or_eq_true, inRange_iff] at ha ha'
  simp only [Block.stackCell, inRange_iff, hramOff] at h
  refine BitVec.eq_of_toNat_eq ?_
  split_ifs at h <;> simp only [Prod.mk.injEq, reduceCtorEq, false_and, true_and] at h <;> omega

/-- Settles O58: the dispatch writes two different cells, and the return reads these. -/
theorem returnUndoesDispatch : Obligations.ReturnUndoesDispatch := by
  intro c s hs hime hsel hhi hlo
  obtain ⟨-, hb⟩ := (inv_iff s).mp hs
  obtain ⟨h6, ⟨hbank, -⟩, -⟩ := hb.banks
  obtain ⟨src, hsrc⟩ := Option.ne_none_iff_exists'.mp hsel
  have hreachHi := reaches_stackCell h6 hhi
  have hreachLo := reaches_stackCell h6 hlo
  have hreachNext : s.reaches (c.sp - 2 + 1) (s.blk.stackCell (c.sp - 1)) := by
    rwa [show c.sp - 2 + 1 = c.sp - 1 by bv_omega]
  have hkept := dispatched_bankPart s.blk c.pc (s.blk.stackCell (c.sp - 1)) (s.blk.stackCell (c.sp - 2))
  have hreturn := returnFromHandler_of_reaches (c := c.vectored s.cfg src)
    (hreachLo.of_banks (t := s.complete _ .none []) rfl hkept) (hreachNext.of_banks rfl hkept)
  refine ⟨_, _, _, _, dispatch_of_reaches hime hsrc hreachHi hreachLo, hreturn, ?pc, BitVec.sub_add_cancel c.sp 2,
    rfl, rfl⟩
  case pc =>
    have hcells : s.blk.stackCell (c.sp - 1) ≠ s.blk.stackCell (c.sp - 2) := fun h =>
      absurd (stackCell_injOn hbank hhi hlo h) (by bv_omega)
    exact dispatched_pc s.blk c.pc hcells

end Sys2Proof.Machine
end

section
/-! An iteration of a halted CPU (spec/60_exceptions.md R320; spec/44_clock_scheduler.md R287, R290): steps 1 to 5
execute no opcode and tick the cycles of `haltCycles`, and step 6 takes no extra opcode step. -/

namespace Sys2Proof.Machine

variable {i : Inputs} {x : External} {l : Loop} {e : State × List Pulse} {budget : Nat}

/-- With nothing pending a halted CPU spends cycles, whatever its budget (R320). -/
theorem haltCycles_pos {s : State} (h : s.blk.irqPending = false) : 0 < haltCycles budget s := by
  rw [haltCycles, h, if_neg Bool.false_ne_true]
  split
  · decide
  · omega

/-- Where a halted CPU's iteration stands after step 5. -/
def haltedProgress (budget : Nat) (x : External) (l : Loop) (e : State × List Pulse) (t u : State) : Progress :=
  { loop := ⟨{ l.cpu with owed := 0 }, u, l.program⟩
    broke := tickBreaks (haltCycles budget l.st + l.cpu.owed) e.1
    dma := x.dma
    reasons := ⟨(e.2 ++ t.out.pulses).contains .retVblank, x.link⟩ }

/-- Steps 1 to 5 of a halted CPU: the other units' operations, the TICK, BRK_CLR. -/
theorem account_of_halted {t u : State} (hhalt : l.cpu.halted = true) (hother : performAll x.ops l.st = .next e)
    (ht : exec (.tick (haltCycles budget l.st + l.cpu.owed)) e.1 = .next t) (hu : exec .brkClr t = .next u) :
    account budget x l = .next (haltedProgress budget x l e t u) := by
  have htick : execTick (haltCycles budget l.st + l.cpu.owed) e.1 = .next t := ht
  have hclear : execBrkClr t = .next u := hu
  simp [account, cpuChunk_halted hhalt, hother, htick, hclear, haltedProgress]

/-- The extra opcode step is not due to a halted CPU (R321 (b)). -/
theorem quirkDue_of_halted {p : Progress} (h : p.loop.cpu.halted = true) : p.quirkDue = false := by
  simp [Progress.quirkDue, h]

/-- A halted CPU leaves halt exactly if an interrupt is pending (R320). -/
theorem wake_of_halted {c : CpuSide} {s : State} (h : c.halted = true) :
    wake c s = { c with halted := !s.blk.irqPending } := by
  rw [wake, h, Bool.true_and]

/-- A halted CPU's iteration: steps 1 to 5 of the whole budget, then the dispatch of the CPU that woke or did not. -/
theorem iteration_of_halted {t u : State} (hhalt : l.cpu.halted = true) (hother : performAll i.other.ops l.st = .next e)
    (ht : exec (.tick (haltCycles (cycleBudget l.st.cfg i.serial i.sound l.st.blk) l.st + l.cpu.owed)) e.1 = .next t)
    (hu : exec .brkClr t = .next u) :
    iteration i l =
      andThen (dispatch { l.cpu with halted := !u.blk.irqPending, owed := 0 } u) fun r =>
        .next (⟨{ r.1 with owed := r.1.owed + i.other.dma }, r.2, l.program⟩,
          ⟨(e.2 ++ t.out.pulses).contains .retVblank, i.other.link⟩) := by
  rw [iteration, account_of_halted hhalt hother ht hu, andThen_of_next, extraStep_of_not (quirkDue_of_halted hhalt),
    andThen_of_next, haltedProgress]
  dsimp only
  rw [wake_of_halted (c := { l.cpu with owed := 0 }) hhalt]

theorem cycle_of_tick {s t : State} {n : Nat} (h : exec (.tick n) s = .next t) : t.blk.cycle = s.blk.cycle + n := by
  cases h
  exact (cycles_dividerPart s.cfg n s.blk).1

/-- Settles O59: an iteration ticks `haltCycles` and the cycles owed, which are not 0 with nothing pending; with IME = 0
its dispatch does nothing. -/
theorem haltTicksTheBudgetUntilPending : Obligations.HaltTicksTheBudgetUntilPending := by
  intro i l e hhalt hother budget used
  obtain ⟨t, ht⟩ : ∃ t, exec (.tick (used + l.cpu.owed)) e.1 = .next t := ⟨_, rfl⟩
  obtain ⟨u, hu⟩ : ∃ u, exec .brkClr t = .next u := ⟨_, rfl⟩
  have hiteration := iteration_of_halted hhalt hother ht hu
  refine ⟨t, u, ht, hu, ⟨hiteration, fun hime => ?noDispatch⟩, fun hpending => ?time⟩
  case noDispatch =>
    rw [hiteration, dispatch_of_not (c := { l.cpu with halted := !u.blk.irqPending, owed := 0 }) (.inl hime)]
    simp only [andThen_of_next, Nat.zero_add]
  case time =>
    have hused : 0 < used := haltCycles_pos hpending
    rw [cycle_of_tick ht]
    omega

end Sys2Proof.Machine
end

section
/-! LOAD_STATE (spec/70_reset_and_hazards.md R353): a legal snapshot is loaded as it is but for the two latches, which
keep what DIV and TIMA read. -/

namespace Sys2Proof.Machine

variable {s : State} {cfg : Cfg} {b : Block}

/-! ### The resynchronised aggregate -/

/-- Refreshing a current page table changes nothing (INV6). -/
theorem mapBanks_of_inv6 (h6 : b.inv6 cfg) : mapBanks cfg b = b :=
  congrArg (fun table => { b with pageTable := table }) h6.symm

theorem resynchronised_of_inv6 (h6 : b.inv6 cfg) :
    resynchronised cfg b =
      { b with lastTimerCycle := b.cycle, lastDividerCycle := b.cycle - b.divByte.toNat <<< 8 } :=
  mapBanks_of_inv6 (b := { b with lastTimerCycle := _, lastDividerCycle := _ }) h6

/-- The divider byte is byte 1 of the divider count, however often the count has wrapped. -/
theorem divByte_shiftLeft (b : Block) :
    b.divByte.toNat <<< 8 = 256 * ((b.cycle - b.lastDividerCycle) / 256 % 256) := by
  rw [divByte_toNat, Nat.shiftLeft_eq]
  omega

/-- The new divider latch is the cycle counter less a count that has passed already. -/
theorem divByte_shiftLeft_le_cycle (b : Block) : b.divByte.toNat <<< 8 ≤ b.cycle := by
  rw [divByte_shiftLeft]
  omega

/-- The divider latch LOAD_STATE sets keeps the DIV byte. -/
theorem resynchronised_divByte (cfg : Cfg) (b : Block) : (resynchronised cfg b).divByte = b.divByte := by
  have hcount : b.cycle - (b.cycle - b.divByte.toNat <<< 8) = b.divByte.toNat <<< 8 :=
    Nat.sub_sub_self (divByte_shiftLeft_le_cycle b)
  calc (resynchronised cfg b).divByte
    _ = BitVec.ofNat 8 ((b.cycle - (b.cycle - b.divByte.toNat <<< 8)) >>> 8) := rfl
    _ = BitVec.ofNat 8 b.divByte.toNat := by rw [hcount, Nat.shiftLeft_shiftRight]
    _ = b.divByte := by rw [BitVec.ofNat_toNat, BitVec.setWidth_eq]

theorem resynchronised_byteOf (cfg : Cfg) (b : Block) (st : Store) (k : Nat) :
    (resynchronised cfg b).byteOf st k = b.byteOf st k := by
  cases st <;> rfl

/-- The timer latch LOAD_STATE sets leaves TIMA synchronised, whatever the snapshot's phase was. -/
theorem resynchronised_synced : (resynchronised cfg b).synced cfg :=
  (clockInv_of_latched rfl (Nat.sub_le _ _)).2

/-! ### The answer of LOAD_STATE -/

/-- The state LOAD_STATE answers for a legal snapshot. -/
def State.loaded (b : Block) (s : State) : State :=
  { s with blk := resynchronised s.cfg b, bootoffWritten := writtenOnLoad b s, out := ⟨.none, []⟩
           draws := max s.draws (b.memDraw + 1) }

theorem exec_loadState_of_legal (h : b.legal s.cfg (writtenOnLoad b s) = true) :
    exec (.loadState b) s = .next (s.loaded b) :=
  (execLoadState_next b s _).mpr ⟨h, rfl⟩

theorem exec_loadState_of_illegal (h : b.legal s.cfg (writtenOnLoad b s) = false) :
    exec (.loadState b) s = .refused .badSnapshot :=
  if_neg (Bool.eq_false_iff.mp h)

/-- A snapshot with the overlay active is not legal once BOOTOFF was written (INV8). -/
theorem legal_false_of_biosMapped (h : b.biosMapped = true) : b.legal cfg true = false := by
  refine Bool.eq_false_iff.mpr fun hlegal => ?_
  obtain ⟨-, -, -, -, -, -, h8, -⟩ := (legal_iff _ _ _).mp hlegal
  exact Bool.false_ne_true (h8 h).2.symm

/-- A machine's own aggregate shows no BOOTOFF write that its session does not know of (log 13). -/
theorem writtenOnLoad_of_session (h : s.session) : writtenOnLoad s.blk s = s.bootoffWritten := by
  cases hshows : s.blk.showsBootoff s.cfg with
  | false => rw [writtenOnLoad, hshows, Bool.or_false]
  | true => rw [writtenOnLoad, hshows, Bool.or_true, h hshows]

/-- Settles O53: by INV6 a legal snapshot's page table is current already, so the two latches are all LOAD_STATE changes
in it. -/
theorem loadStateResynchronisesALegalSnapshot : Obligations.LoadStateResynchronisesALegalSnapshot := by
  intro s b written
  have hwritten : written = writtenOnLoad b s := Bool.or_assoc _ _ _
  rw [hwritten]
  refine ⟨fun hlegal => ?load, exec_loadState_of_illegal,
    fun hmapped hsession => exec_loadState_of_illegal ?overlay⟩
  case load =>
    obtain ⟨-, -, -, -, h6, -⟩ := (legal_iff _ _ _).mp hlegal
    refine ⟨b.cycle - b.divByte.toNat <<< 8, max s.draws (b.memDraw + 1), ?answer, Nat.sub_le _ _, ?count⟩
    case answer => rw [exec_loadState_of_legal hlegal, State.loaded, resynchronised_of_inv6 h6]
    case count => rw [Nat.sub_sub_self (divByte_shiftLeft_le_cycle b), divByte_shiftLeft]
  case overlay =>
    rw [writtenOnLoad, hsession, Bool.true_or]
    exact legal_false_of_biosMapped hmapped

/-- Settles O54: the machine's own aggregate is legal in its own session; DIV is kept by the divider's latch, and TIMA
is synchronised before the load and after it. -/
theorem saveThenLoadKeepsEverythingButTwoPhases : Obligations.SaveThenLoadKeepsEverythingButTwoPhases := by
  intro s hs
  obtain ⟨-, hlegal, hsession, hsync⟩ := hs
  obtain ⟨-, -, -, -, h6, -⟩ := (legal_iff _ _ _).mp hlegal
  have hwritten := writtenOnLoad_of_session hsession
  have hload := exec_loadState_of_legal (s := s) (b := s.blk) (hwritten.symm ▸ hlegal)
  refine ⟨s.loaded s.blk, hload, ?latches, hwritten, resynchronised_byteOf s.cfg s.blk, ⟨s.blk.divByte, rfl, ?div⟩,
    ?tima⟩
  case latches =>
    have hblk : (s.loaded s.blk).blk = _ := resynchronised_of_inv6 h6
    rw [hblk]
  case div => exact congrArg (answerByte (s.loaded s.blk)) (resynchronised_divByte s.cfg s.blk)
  case tima =>
    rw [timerSync_of_synced hsync]
    exact execRdTima_of_synced (s := s.loaded s.blk) resynchronised_synced

end Sys2Proof.Machine
end
